-- ==== Sys2Proof/Word.lean ====
section
/-! DEFINITION. The plain types and the one piece of arithmetic every chapter of the manual shares: bytes, channel and line
numbers, answer text, and a count that saturates at its maximum (00_scope.md, sections 5.3 to 5.6). -/

namespace Sys2Proof

/-- One byte of the configuration image, or one character at the maintenance port. -/
abbrev Byte := BitVec 8

/-- A channel: channel `n` of the manual (1 to 8) is the element `n - 1`. -/
abbrev ChannelNo := Fin 8

/-- An exchange line: line `n` of the manual (1 to 4) is the element `n - 1`. -/
abbrev LineNo := Fin 4

/-- A line of text at the maintenance port, without its CR or CR LF. -/
abbrev Text := List Char

/-- One more, staying at `max` (00_scope.md, 5.4: every count saturates at its stated maximum). -/
def saturatingSucc (max n : Nat) : Nat := min (n + 1) max

/-- The number the manual prints for a channel. -/
def channelNumber (c : ChannelNo) : Nat := c.val + 1

/-- The number the manual prints for a line. -/
def lineNumber (l : LineNo) : Nat := l.val + 1

end Sys2Proof
end

