-- ==== Sys2Proof/Config.lean ====
section
/-! DEFINITION. What the manual leaves to the individual part, or to no rule at all: constants without a body, so that no
proof can rest on their value. -/

namespace Sys2Proof

/-- The 32-bit unique number fixed in silicon at manufacture (00_scope.md 5.3). The manual gives no value: log entry 4. -/
opaque Config.uniqueNumber : BitVec 32

/-- Which of several events that fall due at one instant the part takes first. The manual leaves the order open ("may be
taken in either order"): the choice is free at every such instant (log entry 2). -/
opaque Config.choice : Nat → Nat

end Sys2Proof
end

