-- ==== Sys2Proof/Syntax.lean ====
section
/-! DEFINITION. The commands of the part: one constructor per row of spec/opcode_table.json. The table gives its rows no
operands; the ones here are what the row's rule says the event carries (log entry 3). -/

namespace Sys2Proof

/-- The class of a report (00_scope.md 5.1). -/
inductive ReportClass where
  | fire | sprinkler | boiler | trouble | test
  deriving DecidableEq, Repr

/-- The rank of a class, which is also its class digit on the line; a smaller rank is more urgent (00_scope.md 5.1). -/
def ReportClass.rank : ReportClass → Nat
  | .fire => 0
  | .sprinkler => 1
  | .boiler => 2
  | .trouble => 3
  | .test => 4

/-- The kind of a report (R26). -/
inductive Kind where
  | alarm | restore | status
  deriving DecidableEq, Repr

/-- What names a heard entry: the five fields R128 compares. -/
structure HeardKey where
  station : Nat
  cls : ReportClass
  kind : Kind
  event : Nat
  group : Nat
  deriving DecidableEq, Repr

/-- Two frequencies heard together, in tenths of a hertz (R169). -/
structure TonePair where
  first : Nat
  second : Nat
  deriving DecidableEq, Repr

/-- Two cycles of call-progress tone, in milliseconds (R66, BUSY). -/
structure Cadence where
  on1 : Nat
  off1 : Nat
  on2 : Nat
  off2 : Nat
  deriving DecidableEq, Repr

/-- The commands, one constructor per row of the opcode table. A duration is in milliseconds, a frequency in tenths of a
hertz, a loop resistance in thousandths of the end-of-line value E, a line voltage in millivolts and a loop current in
microamperes. -/
inductive Instr where
  | powerUp
  | powerStable
  | startPinLow
  | startPinRelease
  | imageReadEnd (image : List Byte)
  | imageReadTimeout
  | channelBandQualified (ch : ChannelNo)
  | confirmTimerExpiry (ch : ChannelNo)
  | restoreTimerExpiry (ch : ChannelNo)
  | windowEnd (ch : ChannelNo)
  | wiringFaultEntry (ch : ChannelNo)
  | wiringFaultBandChange (ch : ChannelNo)
  | wiringFaultExit (ch : ChannelNo)
  | eligibleAtReached (seq : Nat)
  | restEnd (seq : Nat)
  | holdoffDeadline
  | preemptWaitExpiry
  | yieldDemandRepeat
  | preemptSuccess
  | preemptResponseEnd
  | lineOnhookBandQualified (ln : LineNo)
  | settlingEnd (ln : LineNo)
  | deadRunLimit (ln : LineNo)
  | deadFaultRecovery (ln : LineNo)
  | noLoopFaultEnd (ln : LineNo)
  | guardEnd (ln : LineNo)
  | currentBandQualified (ln : LineNo)
  | checkWindowEnd (ln : LineNo)
  | breakEnd (ln : LineNo)
  | intrusion (ln : LineNo)
  | loopLoss (ln : LineNo)
  | symbolReport (ln : LineNo) (pair : TonePair) (duration : Nat)
  | dialRecognised (ln : LineNo) (freq : Nat)
  | dialEnd (ln : LineNo) (duration : Nat)
  | busyReport (ln : LineNo) (freq : Nat) (cadence : Cadence)
  | handshakeRecognised (ln : LineNo) (freq : Nat)
  | handshakeEnd (ln : LineNo) (duration : Nat)
  | ackRecognised (ln : LineNo) (freq : Nat)
  | ackEnd (ln : LineNo) (duration : Nat)
  | silenceReport (ln : LineNo)
  | toneRequestDone
  | takeGrant
  | dialDeadline
  | dialGapEnd
  | handshakeDeadline
  | leadInDue
  | blockSymbolGapEnd
  | ackDeadline
  | pauseEnd
  | clashEnd
  | awaitingAckDeadline (ln : LineNo)
  | heardEntryExpiry (key : HeardKey)
  | testTimerExpiry
  | characterReceived (code : Byte) (framingError : Bool)
  | answerEnd
  | ident
  | status
  | queue
  | hist (n : Nat)
  | lines
  | chan (n : Nat)
  | trouble
  | ack
  | bypass (n : Nat)
  | unbypass (n : Nat)
  | test
  | abort
  | restart
  | channelSample (ch : ChannelNo) (resistance : Nat)
  | lineVoltageSample (ln : LineNo) (millivolts : Nat)
  | loopCurrentSample (ln : LineNo) (microamps : Nat)
  | yieldDemandGapEnd
  | supplyFailure
  deriving DecidableEq, Repr

end Sys2Proof
end

