-- ==== Sys2Proof/Decode.lean ====
section
/-! DEFINITION. The command a word spells. spec/opcode_table.json gives its rows no bits: the part takes events, not words, and
no word spells a command (log entry 1). -/

namespace Sys2Proof

/-- No row of the table has bits, so no word spells a command (log entry 1). -/
def decodeTableWord (_nbits _w : Nat) : Option Instr := none

end Sys2Proof
end

