-- ==== Sys2Proof/Machine/Records.lean ====
section
/-! DEFINITION. The records each block of the part owns (00_scope.md, section 4), as plain data. Instants are in milliseconds
on the part's clock `now`; unit clock readings are in seconds. -/

namespace Sys2Proof.Machine

/-! ### Classes, kinds and qualifiers -/

/-- One value per report class, in the order FIRE, SPRINKLER, BOILER, TROUBLE, TEST. -/
structure PerClass (α : Type) where
  fire : α
  sprinkler : α
  boiler : α
  trouble : α
  test : α
  deriving DecidableEq, Repr

/-- The value for a class. -/
def PerClass.get {α : Type} (p : PerClass α) : ReportClass → α
  | .fire => p.fire
  | .sprinkler => p.sprinkler
  | .boiler => p.boiler
  | .trouble => p.trouble
  | .test => p.test

/-- The qualifier of a report, 1 to 6 in the manual's order (chapter 2, section 2.1). -/
inductive Qualifier where
  | alarm | alarmValue | restore | restoreValue | reassert | status
  deriving DecidableEq, Repr

/-- The sixteen DTMF symbols (00_scope.md 5.6). -/
inductive Sym where
  | digit (d : Fin 10)
  | a | b | c | d | star | hash
  deriving DecidableEq, Repr

/-! ### Monitored inputs (chapter 1) -/

/-- The band of a supervised loop (section 1.2). -/
inductive Band where
  | short | active | normal | opened
  deriving DecidableEq, Repr

/-- The state of a channel (section 1.1). -/
inductive ChannelState where
  | disabled | normal | confirming | alarm | restoring | fault
  deriving DecidableEq, Repr

/-- The mode a channel is configured in (section 1.1). -/
inductive Mode where
  | disabled | contact | flow | count
  deriving DecidableEq, Repr

/-- A CONTACT timer: stopped, running until an instant, or ended with its expiry held (R8). -/
inductive Timer where
  | stopped
  | running (ends : Nat)
  | held
  deriving DecidableEq, Repr

/-- The working part of a channel record (section 1.1). `bandSince` is the instant of the last change of sampled band, from
which the debounce time (R2) and the wiring test's 1 s (R3) are both counted. -/
structure Channel where
  sampled : Band
  bandSince : Nat
  qualified : Band
  state : ChannelState
  faultBand : Option Band
  alarmMemory : Bool
  alarmEntry : Option Nat
  confirmTimer : Timer
  restoreTimer : Timer
  pulses : Nat
  windowEnd : Option Nat
  hold : Nat
  consecutive : Nat
  peak : Nat
  transients : Nat
  lastKind : Kind
  bypass : Bool
  deriving DecidableEq, Repr

/-- The settings of a channel (section 1.1). Debounce in milliseconds, the other times in seconds. -/
structure ChannelSettings where
  cls : ReportClass
  event : Nat
  group : Nat
  mode : Mode
  debounce : Nat
  confirm : Nat
  restore : Nat
  window : Nat
  windows : Nat
  setHigh : Nat
  setLow : Nat
  gate : Option ChannelNo
  restoreReporting : Bool
  deriving DecidableEq, Repr

/-! ### Working settings (chapter 8) -/

/-- A symbol of a destination: a digit or the pause mark P (section 2.7). -/
inductive DialSym where
  | digit (d : Fin 10)
  | pause
  deriving DecidableEq, Repr

/-- One of the three configured destinations. -/
inductive DestId where
  | d1 | d2 | d3
  deriving DecidableEq, Repr

/-- The route of a class (section 2.7). -/
structure Route where
  first : Option DestId
  second : Option DestId
  deriving DecidableEq, Repr

/-- The working settings (section 8.1). A destination that is none is the empty list. In a line set, bit 0 is line 1. -/
structure Settings where
  station : Nat
  account : Nat
  fitted : BitVec 4
  masks : PerClass (BitVec 4)
  dest1 : List DialSym
  dest2 : List DialSym
  dest3 : List DialSym
  routes : PerClass Route
  maxima : PerClass Nat
  restMinutes : Nat
  coverage : Nat
  shared : List Nat
  testHours : Nat
  troubleReporting : Bool
  channels : Vector ChannelSettings 8
  deriving DecidableEq, Repr

/-- What the loader shows of the last image read (R157): the version and the clamp count. -/
structure Loader where
  imageVersion : Nat
  clampCount : Nat
  deriving DecidableEq, Repr

/-! ### Reports and the report queue (chapter 2) -/

/-- Which part of the station a report concerns (section 2.1). -/
inductive Source where
  | channel (c : ChannelNo)
  | line (l : LineNo)
  | unit
  deriving DecidableEq, Repr

/-- What the raising block sets in a report and the queue never alters (R25). -/
structure Matter where
  cls : ReportClass
  qualifier : Qualifier
  event : Nat
  group : Nat
  source : Source
  value : Option Nat
  occurred : Nat
  deriving DecidableEq, Repr

/-- Where a report stands (section 2.1). -/
inductive ReportState where
  | queued | inCall | resting
  deriving DecidableEq, Repr

/-- A report of the queue (section 2.1). -/
structure Report where
  seq : Nat
  matter : Matter
  state : ReportState
  eligibleAt : Nat
  restEnd : Option Nat
  attempts : Nat
  contention : Nat
  reassert : Bool
  deriving DecidableEq, Repr

/-- The outcome of a history entry with the fields it carries (section 2.10). -/
inductive Fate where
  | delivered (line : LineNo) (dest : DestId)
  | covered (peer : Nat)
  | dropped
  | notRouted
  deriving DecidableEq, Repr

/-- An entry of the history ring (section 2.10). -/
structure HistoryEntry where
  seq : Nat
  matter : Matter
  fate : Fate
  finish : Nat
  deriving DecidableEq, Repr

/-- The report queue: its reports in queue order (R29), the sequence counter (R28), the overflow count and mark (R36), the
history ring, oldest first (R48), and the head as last decided (R30). -/
structure Queue where
  reports : List Report
  counter : Nat
  overflow : Nat
  overflowMark : Bool
  history : List HistoryEntry
  head : Option Nat
  deriving DecidableEq, Repr

/-! ### Exchange lines (chapter 3) -/

/-- The band of the line voltage (section 3.2). -/
inductive OnhookBand where
  | dead | occupied | idle
  deriving DecidableEq, Repr

/-- The band of the loop current (section 3.2). -/
inductive CurrentBand where
  | none | shared | sole
  deriving DecidableEq, Repr

/-- The state of a line (section 3.3). -/
inductive LineState where
  | unfitted | settling | idle | occupied | suspect | faulted | held | break | guard
  deriving DecidableEq, Repr

/-- Why a line is FAULTED. -/
inductive FaultCause where
  | dead | noLoop
  deriving DecidableEq, Repr

/-- The block to which a held line's reports go. -/
inductive Holder where
  | access | call
  deriving DecidableEq, Repr

/-- The kinds of release request (R62). -/
inductive ReleaseKind where
  | plain | noYield | brk
  deriving DecidableEq, Repr

/-- A line's receiver before a change of the block its reports go to: when it began to classify, and the instant of the change, at
which its reports may still be taken (R67). -/
structure FormerReceiver where
  since : Nat
  ended : Nat
  deriving DecidableEq, Repr

/-- The line record (section 3.1), with the instants its qualifications are counted from and what the tone receiver has in
hand. `periodOver` says that the timed stay in SETTLING, GUARD or a NO_LOOP fault has ended with no band qualified yet;
`sharedFromSole` that the present SHARED run followed SOLE and has given no intrusion (R64); `lossGiven` that the present
NONE run has given its loop loss (R65); `receiverSince` when the receiver last began to classify (R67, R68), and `formerReceiver`
what it was before the latest change of the block its reports go to (R67); `toSilence` that something has been recognised since
and SILENCE not yet reported, and `lastHeard` when it ended (R66). -/
structure Line where
  fitted : Bool
  state : LineState
  enteredAt : Nat
  periodOver : Bool
  sampledOnhook : Option OnhookBand
  onhookSince : Nat
  qualifiedOnhook : Option OnhookBand
  deadRunStart : Option Nat
  sampledCurrent : Option CurrentBand
  currentSince : Nat
  qualifiedCurrent : Option CurrentBand
  qualifiedCurrentSince : Nat
  sharedFromSole : Bool
  lossGiven : Bool
  faultCause : Option FaultCause
  noLoop : Bool
  holder : Option Holder
  checkStart : Option Nat
  dialHeard : Bool
  handshakeHeard : Bool
  ackHeard : Bool
  receiverSince : Nat
  formerReceiver : Option FormerReceiver
  toSilence : Bool
  lastHeard : Nat
  occupant : Option ReportClass
  noYield : Bool
  seizes : Nat
  collisions : Nat
  garbled : Nat
  deriving DecidableEq, Repr

/-- A tone on the part's one tone output, or one waiting for it (R68). -/
structure ToneRequest where
  line : LineNo
  sym : Sym
  duration : Nat
  deriving DecidableEq, Repr

/-- The tone output: the request now sounding with the instant it ends, and the requests behind it in order (R68). -/
structure ToneOutput where
  sounding : Option (ToneRequest × Nat)
  waiting : List ToneRequest
  deriving DecidableEq, Repr

/-! ### Line access (chapter 4) -/

/-- A report of a held line that the access controller passes on with the grant (R87). Changes of qualified current are
passed too, and the call engine takes no action on them (R97). -/
inductive HeldReport where
  | currentChange (band : CurrentBand)
  | intrusion
  | loopLoss
  deriving DecidableEq, Repr

/-- The phase of a preemption (section 4.1). -/
inductive PreemptPhase where
  | demanding | break
  deriving DecidableEq, Repr

/-- The preempt record (R90). `digit` is the class read at the latest demand's beginning, `gapEnd` the end of the 200 ms after
its D, and `nextDemand` when a further demand begins. -/
structure PreemptRecord where
  occupant : Option ReportClass
  phase : PreemptPhase
  demands : Nat
  soleSince : Option Nat
  responseEnd : Nat
  digit : ReportClass
  gapEnd : Option Nat
  nextDemand : Option Nat
  deriving DecidableEq, Repr

/-- The access state with the fields present in it (section 4.1). Every state but `idle` carries T0 first. In `wait`, `waited`
says that the preempt wait expiry has been taken (R78). -/
inductive AccessState where
  | idle
  | wait (t0 since : Nat) (waited : Bool)
  | holdoff (t0 : Nat) (line : LineNo) (h base deadline : Nat)
  | check (t0 : Nat) (line : LineNo)
  | preempt (t0 : Nat) (line : LineNo) (record : PreemptRecord)
  | granted (t0 : Nat) (line : LineNo) (head : Nat) (passed : List HeldReport)
  deriving DecidableEq, Repr

/-- The access context (section 4.1): the access state and the line cursor. -/
structure Access where
  state : AccessState
  cursor : LineNo
  deriving DecidableEq, Repr

/-! ### The call (chapter 5) -/

/-- The call state (section 5.1). -/
inductive CallState where
  | idle | dialtoneWait | dialling | awaitHandshake | sendingBlock | awaitAck | paused | closing
  deriving DecidableEq, Repr

/-- What has been heard of the receiver's handshake (section 5.1). -/
inductive HandshakeProgress where
  | none | recognised | ended (at_ : Nat)
  deriving DecidableEq, Repr

/-- A batch entry: a report by sequence number, and its sends completed (section 5.1). -/
structure BatchEntry where
  seq : Nat
  sends : Nat
  deriving DecidableEq, Repr

/-- The pause record (R112), with whether DIAL has been noted as heard in the pause (R113). -/
structure PauseRecord where
  from_ : CallState
  pauseEnd : Nat
  dEnded : Option Nat
  dialNoted : Bool
  deriving DecidableEq, Repr

/-- The call context (section 5.1). `inFlight` says that the first batch entry is the block in flight. `gapEnd` is the end of
the silent gap, or pause mark when `inPauseMark`, now waited out (R101, R103); `ackExpired` the instant an ACK wait was last
taken as expired (R105); `ackEndAwaited` that the end of a counted ACK has not been reported (R107). -/
structure Call where
  state : CallState
  line : Option LineNo
  dest : Option DestId
  batch : List BatchEntry
  inFlight : Bool
  position : Nat
  gapEnd : Option Nat
  inPauseMark : Bool
  dialDeadline : Option Nat
  handshakeDeadline : Option Nat
  progress : HandshakeProgress
  ackDeadline : Option Nat
  ackExpired : Option Nat
  ackEndAwaited : Bool
  leadIn : Option Nat
  resendDue : Bool
  pause : Option PauseRecord
  suspend : Bool
  deriving DecidableEq, Repr

/-- Why a call ends (section 5.7). -/
inductive EndCause where
  | noDialTone | destBusy | noAnswer | noAck | loopLost | yielded | intruded | suspended | maintAbort
  deriving DecidableEq, Repr

/-! ### Listening to peers (chapter 6) -/

/-- A stream being collected: its symbols since the opening *, and the end of the latest (R123). -/
structure Stream where
  syms : List Sym
  latestEnd : Nat
  deriving DecidableEq, Repr

/-- An awaiting acknowledgement: its deadline, and the heard entry it names or nothing (section 6.1). -/
structure Awaiting where
  deadline : Nat
  names : Option HeardKey
  deriving DecidableEq, Repr

/-- The decoder record of a line (section 6.1). -/
structure Decoder where
  stream : Option Stream
  dEnded : Option Nat
  awaiting : Option Awaiting
  deriving DecidableEq, Repr

/-- An entry of the heard table (section 6.1). `ackOrder` orders the acknowledgements that have counted (R132). -/
structure HeardEntry where
  key : HeardKey
  heard : Nat
  acknowledged : Bool
  ackOrder : Nat
  deriving DecidableEq, Repr

/-- The peer listener: the heard table, oldest first, a decoder per line, the clash end while the clash is active (R131),
and how many acknowledgements have counted. -/
structure Listener where
  heard : List HeardEntry
  decoders : Vector Decoder 4
  clashEnd : Option Nat
  ackCount : Nat
  deriving DecidableEq, Repr

/-! ### Troubles (chapter 7) -/

/-- The twenty-eight conditions of the trouble list (section 7.1). -/
inductive Condition where
  | channelOpen (c : ChannelNo)
  | channelShort (c : ChannelNo)
  | lineDead (l : LineNo)
  | lineNoLoop (l : LineNo)
  | commFail
  | queueOverflow
  | stationClash
  | configDefaulted
  deriving DecidableEq, Repr

/-- A pending trouble report with when it became pending and its place among all refusals (R142). -/
structure PendingReport where
  matter : Matter
  since : Nat
  order : Nat
  deriving DecidableEq, Repr

/-- The fields of a condition (section 7.1). -/
structure ConditionRecord where
  active : Bool
  unacknowledged : Bool
  since : Option Nat
  occurrences : Nat
  pending : Option PendingReport
  deriving DecidableEq, Repr

/-- The trouble unit: the list in its order, the test timer's next expiry (R148), the missed-test count, and how many
reports have been refused. -/
structure TroubleUnit where
  list : Vector ConditionRecord 28
  testExpiry : Option Nat
  missedTests : Nat
  refusals : Nat
  deriving DecidableEq, Repr

/-! ### Maintenance port (chapter 9) -/

/-- A line of the input buffer (R161). -/
structure PortLine where
  chars : Text
  overlong : Bool
  deriving DecidableEq, Repr

/-- An answer being sent: its lines, the instant its last character ends in 24ths of a millisecond, and whether a start follows it (R168). -/
structure Answer where
  lines : List Text
  ends : Nat
  restart : Bool
  deriving DecidableEq, Repr

/-- The maintenance port: the completed lines waiting, oldest first, the line being received, and the answer being sent. -/
structure Port where
  waiting : List PortLine
  receiving : PortLine
  answer : Option Answer
  deriving DecidableEq, Repr

/-! ### Start (chapter 8) -/

/-- The supply: down, at its working level since an instant but not yet for 100 ms, or up (R158). -/
inductive Supply where
  | down
  | rising (since : Nat)
  | up
  deriving DecidableEq, Repr

/-- The part is in start with no image read begun, reads the image since an instant, or has completed its start (R151). -/
inductive Phase where
  | starting
  | reading (since : Nat)
  | running
  deriving DecidableEq, Repr

/-- The cause of a start (R158). -/
inductive StartCause where
  | powerUp | startPin | restart
  deriving DecidableEq, Repr

/-! ### Indications (R22, R70, R146, R147) -/

/-- How a lamp shows: dark, lit steadily, or flashing with equal on and off times in milliseconds. -/
inductive Lamp where
  | dark
  | steady
  | flashing (halfPeriod : Nat)
  deriving DecidableEq, Repr

end Sys2Proof.Machine
end

