-- ==== Sys2Proof/Machine/StartValues.lean ====
section
/-! DEFINITION. The value every record has after a start (R24, R49, R71, R72, R122, R137, R150, R168) and the default working
settings (R153). -/

namespace Sys2Proof.Machine

/-- The default settings of a channel: DISABLED, and the values CHAN shows (R153). -/
def defaultChannelSettings : ChannelSettings where
  cls := .fire
  event := 100
  group := 0
  mode := .disabled
  debounce := 200
  confirm := 0
  restore := 0
  window := 60
  windows := 1
  setHigh := 1
  setLow := 0
  gate := none
  restoreReporting := false

/-- The default working settings (R153). -/
def defaultSettings : Settings where
  station := 1
  account := 0
  fitted := 0
  masks := ⟨0, 0, 0, 0, 0⟩
  dest1 := []
  dest2 := []
  dest3 := []
  routes := ⟨⟨none, none⟩, ⟨none, none⟩, ⟨none, none⟩, ⟨none, none⟩, ⟨none, none⟩⟩
  maxima := ⟨10, 10, 5, 5, 3⟩
  restMinutes := 10
  coverage := 120
  shared := [0, 0, 0, 0, 0, 0, 0, 0]
  testHours := 0
  troubleReporting := true
  channels := Vector.replicate 8 defaultChannelSettings

/-- A channel record after a start whose image read ended at instant 0 (R24). -/
def freshChannel (set : ChannelSettings) : Channel where
  sampled := .normal
  bandSince := 0
  qualified := .normal
  state := if set.mode = .disabled then .disabled else .normal
  faultBand := none
  alarmMemory := false
  alarmEntry := none
  confirmTimer := .stopped
  restoreTimer := .stopped
  pulses := 0
  windowEnd := if set.mode = .flow ∨ set.mode = .count then some (1000 * set.window) else none
  hold := 0
  consecutive := 0
  peak := 0
  transients := 0
  lastKind := .restore
  bypass := false

/-- The report queue cleared by a start, before the START report (R49). -/
def freshQueue : Queue where
  reports := []
  counter := 0
  overflow := 0
  overflowMark := false
  history := []
  head := none

/-- A line record after a start whose image read ended at instant 0: SETTLING if fitted, UNFITTED if not (R71). -/
def freshLine (fitted : Bool) : Line where
  fitted := fitted
  state := if fitted then .settling else .unfitted
  enteredAt := 0
  periodOver := false
  sampledOnhook := none
  onhookSince := 0
  qualifiedOnhook := none
  deadRunStart := none
  sampledCurrent := none
  currentSince := 0
  qualifiedCurrent := none
  qualifiedCurrentSince := 0
  sharedFromSole := false
  lossGiven := false
  faultCause := none
  noLoop := false
  holder := none
  checkStart := none
  dialHeard := false
  handshakeHeard := false
  ackHeard := false
  receiverSince := 0
  formerReceiver := none
  toSilence := false
  lastHeard := 0
  occupant := none
  noYield := false
  seizes := 0
  collisions := 0
  garbled := 0

/-- No tone sounding and none requested. -/
def freshTone : ToneOutput := ⟨none, []⟩

/-- The access context after a start (R72). -/
def freshAccess : Access := ⟨.idle, 0⟩

/-- The call context in CE_IDLE: every other field absent, none or clear (R96, R122). -/
def freshCall : Call where
  state := .idle
  line := none
  dest := none
  batch := []
  inFlight := false
  position := 0
  gapEnd := none
  inPauseMark := false
  dialDeadline := none
  handshakeDeadline := none
  progress := .none
  ackDeadline := none
  ackExpired := none
  ackEndAwaited := false
  leadIn := none
  resendDue := false
  pause := none
  suspend := false

/-- A decoder with nothing in progress (R137). -/
def freshDecoder : Decoder := ⟨none, none, none⟩

/-- The peer listener after a start (R137). -/
def freshListener : Listener := ⟨[], Vector.replicate 4 freshDecoder, none, 0⟩

/-- A condition inactive, acknowledged and without history (R150). -/
def freshCondition : ConditionRecord := ⟨false, false, none, 0, none⟩

/-- The trouble unit after a start, its test timer still unset (R150). -/
def freshTrouble : TroubleUnit := ⟨Vector.replicate 28 freshCondition, none, 0, 0⟩

/-- The maintenance port with an empty buffer and no answer in progress (R168). -/
def freshPort : Port := ⟨[], ⟨[], false⟩, none⟩

end Sys2Proof.Machine
end

