-- ==== Sys2Proof/Machine/State.lean ====
section
/-! DEFINITION. The state of the part, the reasons a step can stop, and the state the part is in right after reset. -/

namespace Sys2Proof.Machine

/-- Why a step may stop with a fault. The manual gives the part no event that stops it: no meaning answers a fault, and the
one reason below is raised by nobody. -/
inductive Fault where
  /-- Raised by no meaning (safe: it removes no behaviour). -/
  | neverRaised
  deriving DecidableEq, Repr

/-- Why a step may be refused. -/
inductive Refusal where
  /-- Answered by `exec` alone, for a command that has no meaning yet; no arm answers it (safe: the model would stop where
  the part goes on). -/
  | notModelled (mnemonic : String)
  deriving DecidableEq, Repr

/-- Everything the manual gives the part. `now` is the part's clock in milliseconds since the end of the latest image read
(in a start: since the end of the one before), `choices` counts the free choices made among events due together (log entry
2), and `pending` holds the commands that wait, first in first out. -/
structure State where
  now : Nat
  supply : Supply
  pinLow : Bool
  phase : Phase
  startCause : StartCause
  unique : BitVec 32
  settings : Settings
  loader : Loader
  channels : Vector Channel 8
  queue : Queue
  lines : Vector Line 4
  tone : ToneOutput
  access : Access
  call : Call
  listener : Listener
  trouble : TroubleUnit
  port : Port
  choices : Nat
  pending : List Instr
  deriving DecidableEq, Repr

/-- The part right after reset: a power-up start has begun, the supply has just reached its working level, and no image has
been read (R158, R159; log entries 4 and 5). -/
def State.reset : State where
  now := 0
  supply := .rising 0
  pinLow := false
  phase := .starting
  startCause := .powerUp
  unique := Config.uniqueNumber
  settings := defaultSettings
  loader := ⟨0, 0⟩
  channels := Vector.replicate 8 (freshChannel defaultChannelSettings)
  queue := freshQueue
  lines := Vector.replicate 4 (freshLine false)
  tone := freshTone
  access := freshAccess
  call := freshCall
  listener := freshListener
  trouble := freshTrouble
  port := freshPort
  choices := 0
  pending := []

end Sys2Proof.Machine
end

