-- ==== Sys2Proof/Machine/Ops.lean ====
section
/-! DEFINITION. The named operations over the state that every block uses: the clocks, reading and writing one channel, line,
decoder or trouble condition, and the tone output (R68). -/

namespace Sys2Proof.Machine

/-! ### Clocks -/

/-- Whether start is complete (R146, R151). -/
def State.running (s : State) : Bool := s.phase = .running

/-- The unit clock in seconds: held at 0 during a start (R159), counting from its end, and staying at 4,294,967,295
(00_scope.md 4 and 5.4; log entry 6). -/
def State.clock (s : State) : Nat := if s.running then min (s.now / 1000) 4294967295 else 0

/-- An instant of the present start as unit clock seconds, as LINES shows it (section 3.1). -/
def secondsOf (instant : Nat) : Nat := min (instant / 1000) 4294967295

/-- Whether a set instant has been reached. -/
def reached (due : Option Nat) (now : Nat) : Bool :=
  match due with
  | none => false
  | some t => t ≤ now

/-! ### One channel, line, decoder or condition -/

/-- The record of a channel. -/
def State.chan (s : State) (c : ChannelNo) : Channel := s.channels[c.val]'c.isLt

/-- The working settings of a channel. -/
def State.chanSettings (s : State) (c : ChannelNo) : ChannelSettings := s.settings.channels[c.val]'c.isLt

/-- Changes the record of a channel. -/
def State.setChan (s : State) (c : ChannelNo) (f : Channel → Channel) : State :=
  { s with channels := s.channels.set c.val (f (s.chan c)) c.isLt }

/-- The record of a line. -/
def State.line (s : State) (l : LineNo) : Line := s.lines[l.val]'l.isLt

/-- Changes the record of a line. -/
def State.setLine (s : State) (l : LineNo) (f : Line → Line) : State :=
  { s with lines := s.lines.set l.val (f (s.line l)) l.isLt }

/-- The decoder of a line. -/
def State.decoder (s : State) (l : LineNo) : Decoder := s.listener.decoders[l.val]'l.isLt

/-- Changes the decoder of a line. -/
def State.setDecoder (s : State) (l : LineNo) (f : Decoder → Decoder) : State :=
  { s with listener := { s.listener with decoders := s.listener.decoders.set l.val (f (s.decoder l)) l.isLt } }

/-- The place of a condition in the trouble list (section 7.1). -/
def Condition.index : Condition → Fin 28
  | .channelOpen c => ⟨c.val, by omega⟩
  | .channelShort c => ⟨8 + c.val, by omega⟩
  | .lineDead l => ⟨16 + l.val, by omega⟩
  | .lineNoLoop l => ⟨20 + l.val, by omega⟩
  | .commFail => 24
  | .queueOverflow => 25
  | .stationClash => 26
  | .configDefaulted => 27

/-- All channels, lowest number first. -/
def allChannels : List ChannelNo := List.finRange 8

/-- All lines, lowest number first. -/
def allLines : List LineNo := List.finRange 4

/-- The conditions in list order (section 7.1). -/
def allConditions : List Condition :=
  allChannels.map .channelOpen ++ allChannels.map .channelShort ++ allLines.map .lineDead ++ allLines.map .lineNoLoop
    ++ [.commFail, .queueOverflow, .stationClash, .configDefaulted]

/-- The record of a condition. -/
def State.cond (s : State) (c : Condition) : ConditionRecord := s.trouble.list[c.index.val]'c.index.isLt

/-- Changes the record of a condition. -/
def State.setCond (s : State) (c : Condition) (f : ConditionRecord → ConditionRecord) : State :=
  { s with trouble := { s.trouble with list := s.trouble.list.set c.index.val (f (s.cond c)) c.index.isLt } }

/-! ### The tone output (R68) -/

/-- Whether the part's own tone has sounded on a line since before now, so that its receiver reports nothing. A report that
falls at the instant the tone begins may be taken after it (R105). -/
def toneSounds (l : LineNo) (s : State) : Bool :=
  match s.tone.sounding with
  | some (r, ends) => r.line = l && ends < s.now + r.duration
  | none => false

/-- The part's own tone has sounded until now: the receiver resumes classifying now, and heard nothing before. -/
def Line.resumeReceiver (now : Nat) (ln : Line) : Line := { ln with receiverSince := now, formerReceiver := none }

/-- Begins a tone: the line's receiver stops classifying what it had in hand. -/
def startTone (r : ToneRequest) (s : State) : State :=
  { s.setLine r.line fun ln => { ln with handshakeHeard := false, ackHeard := false } with
    tone := { s.tone with sounding := some (r, s.now + r.duration) } }

/-- A tone request of the line's holder: sent at once, or after the last one has finished. A request for a line in any
state but HELD has no effect. -/
def requestTone (l : LineNo) (sym : Sym) (duration : Nat) (s : State) : State :=
  if (s.line l).state = .held then
    match s.tone.sounding with
    | none => startTone ⟨l, sym, duration⟩ s
    | some _ => { s with tone := { s.tone with waiting := s.tone.waiting ++ [⟨l, sym, duration⟩] } }
  else s

/-- A line leaves HELD: a tone being sent on it stops at once, which the receiver did not hear past, and its outstanding requests
are discarded. -/
def silenceLine (l : LineNo) (s : State) : State :=
  { s.setLine l (if toneSounds l s then Line.resumeReceiver s.now else id) with tone := {
      sounding := match s.tone.sounding with
        | some (r, e) => if r.line = l then none else some (r, e)
        | none => none
      waiting := s.tone.waiting.filter fun r => r.line ≠ l } }

/-- The sounding tone is finished: the receiver resumes classifying, and the next request in order starts. -/
def finishTone (r : ToneRequest) (s : State) : State :=
  let s1 := s.setLine r.line (Line.resumeReceiver s.now)
  match s.tone.waiting with
  | [] => { s1 with tone := ⟨none, []⟩ }
  | n :: rest => startTone n { s1 with tone := ⟨none, rest⟩ }

/-! ### Kinds, qualifiers and symbols -/

/-- The kind of a report follows from its qualifier (R26). -/
def Qualifier.kind : Qualifier → Kind
  | .alarm | .alarmValue | .reassert => .alarm
  | .restore | .restoreValue => .restore
  | .status => .status

/-- The qualifier as a number (section 2.1). -/
def Qualifier.code : Qualifier → Nat
  | .alarm => 1
  | .alarmValue => 2
  | .restore => 3
  | .restoreValue => 4
  | .reassert => 5
  | .status => 6

/-- The DTMF digit of a number below ten. -/
def digitSym (n : Nat) : Sym := .digit (Fin.ofNat 10 n)

/-- The class whose digit a symbol carries. -/
def Sym.classOf : Sym → Option ReportClass
  | .digit k =>
    match k.val with
    | 0 => some .fire
    | 1 => some .sprinkler
    | 2 => some .boiler
    | 3 => some .trouble
    | 4 => some .test
    | _ => none
  | _ => none

/-- The symbols of a destination (section 8.1). -/
def Settings.dest (set : Settings) : DestId → List DialSym
  | .d1 => set.dest1
  | .d2 => set.dest2
  | .d3 => set.dest3

end Sys2Proof.Machine
end

