-- ==== Sys2Proof/Machine/Operands.lean ====
section
/-! DEFINITION. How the quantities a command carries are sorted: loop resistance, line voltage and loop current into bands
(sections 1.2 and 3.2), frequencies into symbols and tones (R169), durations into recognitions (R66). -/

namespace Sys2Proof.Machine

/-- The band of a loop resistance, in thousandths of E (section 1.2). -/
def Band.ofResistance (r : Nat) : Band :=
  if r < 250 then .short else if r < 750 then .active else if r < 1500 then .normal else .opened

/-- The band of a line voltage in millivolts (section 3.2). -/
def OnhookBand.ofMillivolts (v : Nat) : OnhookBand :=
  if v < 3000 then .dead else if v < 19000 then .occupied else .idle

/-- The band of a loop current in microamperes (section 3.2). -/
def CurrentBand.ofMicroamps (i : Nat) : CurrentBand :=
  if i < 8000 then .none else if i < 18000 then .shared else .sole

/-- A frequency, in tenths of a hertz, within 2 per cent of a nominal one in hertz (R169). -/
def within2 (nominal f : Nat) : Bool := 98 * nominal ≤ 10 * f ∧ 10 * f ≤ 102 * nominal

/-- The low-group row a frequency belongs to, 0 to 3 (R169). -/
def lowGroup (f : Nat) : Option (Fin 4) :=
  if within2 697 f then some 0 else if within2 770 f then some 1
  else if within2 852 f then some 2 else if within2 941 f then some 3 else none

/-- The high-group column a frequency belongs to, 0 to 3 (R169). -/
def highGroup (f : Nat) : Option (Fin 4) :=
  if within2 1209 f then some 0 else if within2 1336 f then some 1
  else if within2 1477 f then some 2 else if within2 1633 f then some 3 else none

/-- The symbol at a row and column of the table of R169. -/
def keypad : Fin 4 → Fin 4 → Sym
  | 0, 0 => .digit 1
  | 0, 1 => .digit 2
  | 0, 2 => .digit 3
  | 0, 3 => .a
  | 1, 0 => .digit 4
  | 1, 1 => .digit 5
  | 1, 2 => .digit 6
  | 1, 3 => .b
  | 2, 0 => .digit 7
  | 2, 1 => .digit 8
  | 2, 2 => .digit 9
  | 2, 3 => .c
  | 3, 0 => .star
  | 3, 1 => .digit 0
  | 3, 2 => .hash
  | 3, 3 => .d

/-- The symbol whose pair two frequencies are, the lower-group one given first. -/
def orderedPair (low high : Nat) : Option Sym :=
  match lowGroup low, highGroup high with
  | some r, some c => some (keypad r c)
  | _, _ => none

/-- The symbol a pair of frequencies is recognised as; a pair out of tolerance, or of one group, matches none (R169). -/
def TonePair.sym (p : TonePair) : Option Sym :=
  match orderedPair p.first p.second with
  | some y => some y
  | none => orderedPair p.second p.first

/-- The row and column of a symbol in the table of R169. -/
def Sym.cell : Sym → Fin 4 × Fin 4
  | .digit 1 => (0, 0)
  | .digit 2 => (0, 1)
  | .digit 3 => (0, 2)
  | .a => (0, 3)
  | .digit 4 => (1, 0)
  | .digit 5 => (1, 1)
  | .digit 6 => (1, 2)
  | .b => (1, 3)
  | .digit 7 => (2, 0)
  | .digit 8 => (2, 1)
  | .digit 9 => (2, 2)
  | .c => (2, 3)
  | .star => (3, 0)
  | .digit _ => (3, 1)
  | .hash => (3, 2)
  | .d => (3, 3)

/-- The pair of frequencies the tone output sends for a symbol, in tenths of a hertz (R169). -/
def Sym.pair (y : Sym) : TonePair :=
  ⟨10 * #v[697, 770, 852, 941].get y.cell.1, 10 * #v[1209, 1336, 1477, 1633].get y.cell.2⟩

/-- A single frequency that is the exchange's call-progress tone: 350 to 500 Hz (R169). -/
def isCallProgress (f : Nat) : Bool := 3500 ≤ f ∧ f ≤ 5000

/-- A single frequency that is the receiver's HANDSHAKE tone (R169). -/
def isHandshake (f : Nat) : Bool := within2 1400 f

/-- A single frequency that is the receiver's ACK tone (R169). -/
def isAck (f : Nat) : Bool := within2 2300 f

/-- One on or off period of the BUSY cadence within its limits (R66). -/
def busyPeriod (t : Nat) : Bool := 200 ≤ t ∧ t ≤ 450

/-- Two cycles within the limits of BUSY (R66). -/
def Cadence.isBusy (c : Cadence) : Bool := busyPeriod c.on1 && busyPeriod c.off1 && busyPeriod c.on2 && busyPeriod c.off2

/-- How long two cycles last. -/
def Cadence.length (c : Cadence) : Nat := c.on1 + c.off1 + c.on2 + c.off2

/-- The least time for which each tone is recognised, in milliseconds (R66). -/
def symbolTime : Nat := 40
/-- DIAL: 500 ms continuous (R66). -/
def dialTime : Nat := 500
/-- HANDSHAKE: 300 ms continuous (R66). -/
def handshakeTime : Nat := 300
/-- ACK: 400 ms continuous (R66). -/
def ackTime : Nat := 400
/-- SILENCE: nothing recognised for 300 ms (R66). -/
def silenceTime : Nat := 300

end Sys2Proof.Machine
end

