-- ==== Sys2Proof/Machine/QueueReads.lean ====
section
/-! DEFINITION. What other blocks read of the report queue, and the changes to one report that touch nothing else: routes and
destinations (R44), eligibility and the head (R30), contention (R45). -/

namespace Sys2Proof.Machine

/-- A class has a route when its first destination is not none (R44). -/
def Settings.hasRoute (set : Settings) (c : ReportClass) : Bool := (set.routes.get c).first.isSome

/-- The current destination of a report: the first when its attempts are even or there is no second, else the second (R44). -/
def Settings.currentDest (set : Settings) (r : Report) : Option DestId :=
  let route := set.routes.get r.matter.cls
  if r.attempts % 2 = 0 then route.first
  else match route.second with
    | some d => some d
    | none => route.first

/-- Whether the class line mask of a class names a line. -/
def Settings.maskNames (set : Settings) (c : ReportClass) (l : LineNo) : Bool := (set.masks.get c).getLsbD l.val

/-- A permitted line of a class is fitted and named by the class line mask (R74). -/
def State.permits (s : State) (c : ReportClass) (l : LineNo) : Bool := (s.line l).fitted && s.settings.maskNames c l

/-- A report is eligible when it is QUEUED, its eligible-at is not later than now, its mask names a fitted line and its class
has a route (R30). -/
def State.eligible (s : State) (r : Report) : Bool :=
  r.state = .queued && r.eligibleAt ≤ s.clock && allLines.any (s.permits r.matter.cls) && s.settings.hasRoute r.matter.cls

/-- The first eligible report in queue order, by its sequence number (R30). -/
def State.firstEligible (s : State) : Option Nat := (s.queue.reports.find? s.eligible).map (·.seq)

/-- The report of the queue with a sequence number. -/
def State.report (s : State) (seq : Nat) : Option Report := s.queue.reports.find? fun r => r.seq = seq

/-- The report that is head, as last decided. -/
def State.headReport (s : State) : Option Report := s.queue.head.bind s.report

/-- Changes the report with a sequence number, if the queue holds it. -/
def State.setReport (s : State) (seq : Nat) (f : Report → Report) : State :=
  { s with queue := { s.queue with reports := s.queue.reports.map fun r => if r.seq = seq then f r else r } }

/-- Raises the contention of a named report by one, saturating at 15; no effect on one that has left (R45). -/
def raiseContention (seq : Nat) (s : State) : State :=
  s.setReport seq fun r => { r with contention := saturatingSucc 15 r.contention }

/-- Raises the contention of the report that is head (R83, R92). -/
def raiseHeadContention (s : State) : State :=
  match s.queue.head with
  | some seq => raiseContention seq s
  | none => s

/-- Whether a TEST report with an event code is QUEUED, IN_CALL or RESTING (R148, R166). -/
def State.testPresent (s : State) (event : Nat) : Bool :=
  s.queue.reports.any fun r => r.matter.cls = .test && r.matter.event = event

/-- Whether any report is RESTING (R144). -/
def State.anyResting (s : State) : Bool := s.queue.reports.any fun r => r.state = .resting

end Sys2Proof.Machine
end

