-- ==== Sys2Proof/Machine/LineUnit.lean ====
section
/-! DEFINITION. What a line unit does on request: garbled counts and discarded streams (R69, R125), closing and opening the hook
relay, seizing (R59) and releasing (R62) a line. The notices a line unit gives of a change that another block has asked for
have no effect at that block, and are not repeated here (log entry 12). -/

namespace Sys2Proof.Machine

/-- Raises a line's garbled count, in every state but UNFITTED (R69). -/
def raiseGarbled (l : LineNo) (s : State) : State :=
  if (s.line l).state = .unfitted then s
  else s.setLine l fun ln => { ln with garbled := saturatingSucc 65535 ln.garbled }

/-- Discards a stream in progress on a line and counts it as garbled (R125); nothing when none is in progress. -/
def discardStream (l : LineNo) (s : State) : State :=
  match (s.decoder l).stream with
  | none => s
  | some _ => raiseGarbled l (s.setDecoder l fun d => { d with stream := none })

/-- The receiver that ends at a change made now: at a second change of one instant it is still the one before the first (R67). -/
def Line.endingReceiver (now : Nat) (ln : Line) : FormerReceiver :=
  match ln.formerReceiver with
  | some f => if f.ended = now then f else ⟨ln.receiverSince, now⟩
  | none => ⟨ln.receiverSince, now⟩

/-- The receiver discards what it was classifying and begins anew; what it would report at this very instant may still be reported,
and goes to the block that the new state names (R67). -/
def Line.receiverAnew (now : Nat) (ln : Line) : Line :=
  { ln with
    dialHeard := false, handshakeHeard := false, ackHeard := false, receiverSince := now
    formerReceiver := some (ln.endingReceiver now), toSilence := false }

/-- The hook relay closes: voltage sensing stops, current sensing begins with the qualified band at NONE, and the seize count
rises (R52, R59, R63, R69). -/
def Line.closeRelay (now : Nat) (check : Bool) (ln : Line) : Line :=
  { ln with
    state := .held, enteredAt := now, periodOver := false
    sampledOnhook := none, qualifiedOnhook := none, deadRunStart := none
    sampledCurrent := none, currentSince := now, qualifiedCurrent := some .none, qualifiedCurrentSince := now
    sharedFromSole := false, lossGiven := false
    holder := some .access, checkStart := if check then some now else none
    occupant := none, noYield := false, seizes := saturatingSucc 65535 ln.seizes }

/-- The hook relay opens: current sensing and any check window end, and voltage sensing begins afresh (R51, R62). -/
def Line.openRelay (now : Nat) (state : LineState) (holder : Option Holder) (ln : Line) : Line :=
  { ln with
    state := state, enteredAt := now, periodOver := false
    sampledOnhook := none, onhookSince := now, qualifiedOnhook := none, deadRunStart := none
    sampledCurrent := none, qualifiedCurrent := none, sharedFromSole := false, lossGiven := false
    holder := holder, checkStart := none }

/-- Whether a line other than this one is in HELD or BREAK (R59). -/
def otherTaken (l : LineNo) (s : State) : Bool :=
  allLines.any fun m => m ≠ l && ((s.line m).state = .held || (s.line m).state = .break)

/-- An idle seize is accepted on an IDLE line with no other line in HELD or BREAK (R59). -/
def idleSeizeAccepted (l : LineNo) (s : State) : Bool := (s.line l).state = .idle && !otherTaken l s

/-- A preempt seize is accepted on an OCCUPIED line with no other line in HELD or BREAK (R59). -/
def preemptSeizeAccepted (l : LineNo) (s : State) : Bool := (s.line l).state = .occupied && !otherTaken l s

/-- An accepted seize (R59): the receiver reports SILENCE to the peer listener and begins anew (R67), the relay closes, and
a check window starts on an idle seize only. -/
def seizeLine (check : Bool) (l : LineNo) (s : State) : State :=
  (discardStream l s).setLine l fun ln => (ln.closeRelay s.now check).receiverAnew s.now

/-- The re-seize that ends a BREAK: the same holder, a new check window (R63). -/
def reseizeLine (l : LineNo) (s : State) : State :=
  s.setLine l fun ln => ln.closeRelay s.now true

/-- A held line's relay opens into GUARD with no holder; the receiver passes to the peer listener (R57, R60, R62). -/
def dropToGuard (noYield : Bool) (l : LineNo) (s : State) : State :=
  silenceLine l (s.setLine l fun ln => { (ln.openRelay s.now .guard none).receiverAnew s.now with noYield := noYield })

/-- A release request of a block, with effect only when the block is the line's holder (R62). -/
def releaseLine (by_ : Holder) (kind : ReleaseKind) (l : LineNo) (s : State) : State :=
  if (s.line l).holder = some by_ then
    match (s.line l).state with
    | .held =>
      match kind with
      | .plain => dropToGuard false l s
      | .noYield => dropToGuard true l s
      | .brk => silenceLine l (s.setLine l fun ln => ln.openRelay s.now .break (some .access))
    | .break =>
      match kind with
      | .plain | .noYield =>
        s.setLine l fun ln =>
          { ln.receiverAnew s.now with
            state := .guard, enteredAt := s.now, periodOver := false, holder := none, noYield := kind = .noYield }
      | .brk => s
    | _ => s
  else s

end Sys2Proof.Machine
end

