-- ==== Sys2Proof/Machine/Access.lean ====
section
/-! DEFINITION. The access controller (chapter 4): choosing a line, the hold-off, the seizes, and what it does with each notice
of the report queue and of the line units. -/

namespace Sys2Proof.Machine

/-- Changes the access state, keeping the line cursor. -/
def State.setAccess (s : State) (a : AccessState) : State := { s with access := { s.access with state := a } }

/-- The chosen line, or none (section 4.1). -/
def AccessState.chosen : AccessState → Option LineNo
  | .idle | .wait _ _ _ => none
  | .holdoff _ l _ _ _ | .check _ l | .preempt _ l _ | .granted _ l _ _ => some l

/-- The acquisition start instant T0, absent in AC_IDLE (section 4.1). -/
def AccessState.t0 : AccessState → Option Nat
  | .idle => none
  | .wait t _ _ | .holdoff t _ _ _ _ | .check t _ | .preempt t _ _ | .granted t _ _ _ => some t

/-! ### The hold-off (R76, R77) -/

/-- The stride: 1 plus the remainder of the unique number divided by 31 (R76). -/
def stride (unique : Nat) : Nat := 1 + unique % 31

/-- The slot: the remainder of s plus a times d, divided by 32 (R76). -/
def slot (station contention unique : Nat) : Nat := (station + contention * stride unique) % 32

/-- The base of a class, 0 to 1200 ms (section 4.3). -/
def classBase (c : ReportClass) : Nat := 300 * c.rank

/-- The hold-off H of a report (R76). -/
def holdoffTime (s : State) (r : Report) : Nat :=
  classBase r.matter.cls + 40 * slot s.settings.station r.contention s.unique.toNat + 500 * min r.contention 6

/-- The deadline base: the later of T0 and the line's idle-since instant plus 1500 ms (R77). -/
def deadlineBase (t0 : Nat) (l : LineNo) (s : State) : Nat := max t0 ((s.line l).enteredAt + 1500)

/-! ### Choosing and seizing a line (R74, R75, R79, R82) -/

/-- The lines in the rotation that begins at the cursor (R74). -/
def rotation (cursor : LineNo) : List LineNo := [cursor, cursor + 1, cursor + 2, cursor + 3]

/-- The first permitted IDLE line of a class in the rotation (R74). -/
def firstIdle (s : State) (c : ReportClass) : Option LineNo :=
  (rotation s.access.cursor).find? fun l => s.permits c l && (s.line l).state = .idle

/-- A line is chosen for the head (R74): AC_HOLDOFF on the first permitted IDLE line, or AC_WAIT. With no head there is no
acquisition. -/
def awaitLine (t0 : Nat) (s : State) : State :=
  match s.headReport with
  | none => s.setAccess .idle
  | some r =>
    match firstIdle s r.matter.cls with
    | none => s.setAccess (.wait t0 s.now false)
    | some l =>
      let h := holdoffTime s r
      let base := deadlineBase t0 l s
      s.setAccess (.holdoff t0 l h base (base + h))

/-- The line cursor moves to the line after a seized one (R75). -/
def moveCursor (l : LineNo) (s : State) : State := { s with access := { s.access with cursor := l + 1 } }

/-- An accepted idle seize: the line is taken and the check begins (R75, R82). -/
def takeIdle (t0 : Nat) (l : LineNo) (s : State) : State := (moveCursor l (seizeLine true l s)).setAccess (.check t0 l)

/-- The access controller chooses a line; with a deadline not later than now the idle seize is made at once (R74, R82). If that seize
too is refused, the choice that follows is the same one, for nothing has changed, and it stands (R79). -/
def chooseLine (t0 : Nat) (s : State) : State :=
  let u := awaitLine t0 s
  match u.access.state with
  | .holdoff _ l _ _ deadline => if deadline ≤ s.now ∧ idleSeizeAccepted l s then takeIdle t0 l u else u
  | _ => u

/-- The idle seize of the chosen line (R82); on a refusal a line is chosen again without charge (R79). -/
def seizeChosen (s : State) : State :=
  match s.access.state with
  | .holdoff t0 l _ _ _ => if idleSeizeAccepted l s then takeIdle t0 l s else chooseLine t0 s
  | _ => s

/-- In AC_HOLDOFF with a deadline not later than now, the idle seize is made at once (R81, R82). -/
def seizeIfDue (s : State) : State :=
  match s.access.state with
  | .holdoff _ _ _ _ deadline => if deadline ≤ s.now then seizeChosen s else s
  | _ => s

/-- An acquisition starts in AC_IDLE when the call engine is in CE_IDLE and the queue has a head (R73). -/
def startAcquisition (s : State) : State :=
  if s.access.state = .idle ∧ s.call.state = .idle ∧ s.headReport.isSome then chooseLine s.now s else s

/-- The held line is released with a plain release and a line is chosen with T0 kept (R85, R87, R93). -/
def releaseAndChoose (t0 : Nat) (l : LineNo) (s : State) : State :=
  chooseLine t0 (releaseLine .access .plain l s)

/-- The held line is released with a plain release and the acquisition ends (R85, R86, R87, R93, R94, R95). -/
def releaseAndIdle (l : LineNo) (s : State) : State := (releaseLine .access .plain l s).setAccess .idle

/-! ### Preemption (R88 to R90) -/

/-- A candidate line for a head's class (R89). -/
def isCandidate (s : State) (c : ReportClass) (l : LineNo) : Bool :=
  s.permits c l && (s.line l).state = .occupied && !(s.line l).noYield &&
    match (s.line l).occupant with
    | none => true
    | some o => c.rank < o.rank

/-- How much a candidate is preferred: a known occupant before an unknown one, the greatest rank first (R89). -/
def preference (ln : Line) : Nat :=
  match ln.occupant with
  | none => 0
  | some o => o.rank + 1

/-- The preferred candidate, the lowest line number among lines alike (R89). -/
def preferredCandidate (s : State) (c : ReportClass) : Option LineNo :=
  (allLines.filter (isCandidate s c)).foldl
    (fun best l => match best with
      | none => some l
      | some b => if preference (s.line b) < preference (s.line l) then some l else some b) none

/-- A yield demand begins, one of at most three: the D for 600 ms; the class digit is read now, and the response end set 3 s after
the demand's end (R90). -/
def beginDemand (t0 : Nat) (l : LineNo) (rec : PreemptRecord) (c : ReportClass) (s : State) : State :=
  (requestTone l .d 600 s).setAccess (.preempt t0 l
    { rec with demands := saturatingSucc 3 rec.demands, responseEnd := s.now + 4000, digit := c, gapEnd := none, nextDemand := none })

/-- The preempt seize of a line for a head's class (R90); on a refusal a line is chosen again (R79). -/
def preemptSeize (t0 : Nat) (l : LineNo) (c : ReportClass) (s : State) : State :=
  if preemptSeizeAccepted l s then
    beginDemand t0 l
      { occupant := (s.line l).occupant, phase := .demanding, demands := 0, soleSince := none, responseEnd := s.now
        digit := c, gapEnd := none, nextDemand := none } c
      (moveCursor l (seizeLine false l s))
  else chooseLine t0 s

/-- The preemption test in AC_WAIT (R88). -/
def preemptionTest (s : State) : State :=
  match s.access.state, s.headReport with
  | .wait t0 since _, some r =>
    if r.matter.cls.rank ≤ 1 ∧ since + 2000 ≤ s.now then
      match preferredCandidate s r.matter.cls with
      | some l => preemptSeize t0 l r.matter.cls s
      | none => s
    else s
  | _, _ => s

/-- The preemption test at an event after the preempt wait expiry (R78). -/
def laterPreemptionTest (s : State) : State :=
  match s.access.state with
  | .wait _ _ true => preemptionTest s
  | _ => s

/-! ### Notices of the report queue -/

/-- Whether the preemption in progress goes on for a new head (R93). -/
def preemptionGoesOn (s : State) (l : LineNo) (rec : PreemptRecord) (r : Report) : Bool :=
  r.matter.cls.rank ≤ 1 && s.permits r.matter.cls l &&
    match rec.occupant with
    | none => true
    | some o => r.matter.cls.rank < o.rank

/-- A head-change notice with no head remaining (R78, R81, R86, R87, R93, R94). -/
def headLost (s : State) : State :=
  match s.access.state with
  | .idle => s
  | .wait _ _ _ | .holdoff _ _ _ _ _ => s.setAccess .idle
  | .check _ l | .preempt _ l _ | .granted _ l _ _ => releaseAndIdle l s

/-- A head-change notice with a new head, by access state (R73, R78, R81, R86, R87, R93, R94). -/
def headReplaced (r : Report) (s : State) : State :=
  match s.access.state with
  | .idle => startAcquisition s
  | .wait t0 _ _ => if (firstIdle s r.matter.cls).isSome then chooseLine t0 s else laterPreemptionTest s
  | .holdoff t0 l _ base _ =>
    if s.permits r.matter.cls l then
      let h := holdoffTime s r
      seizeIfDue (s.setAccess (.holdoff t0 l h base (base + h)))
    else chooseLine t0 s
  | .check _ _ => s
  | .preempt t0 l rec =>
    match rec.phase with
    | .demanding => if preemptionGoesOn s l rec r then s else releaseAndChoose t0 l s
    | .break => s
  | .granted t0 l _ passed =>
    if s.permits r.matter.cls l then s.setAccess (.granted t0 l r.seq passed) else releaseAndChoose t0 l s

/-- The queue tells the access controller that the head has changed. -/
def accessHeadChange (s : State) : State :=
  match s.headReport with
  | none => headLost s
  | some r => headReplaced r s

/-! ### Notices of the line units -/

/-- Whether a line is a permitted one for the head. -/
def permittedForHead (s : State) (l : LineNo) : Bool :=
  match s.headReport with
  | none => false
  | some r => s.permits r.matter.cls l

/-- A line unit tells that its line has changed state of itself, by access state (R78, R80, R86, R87, R93, R94). -/
def accessLineNotice (l : LineNo) (s : State) : State :=
  match s.access.state with
  | .wait t0 _ _ =>
    if permittedForHead s l then
      if (s.line l).state = .idle then chooseLine t0 s else laterPreemptionTest s
    else s
  | .holdoff t0 chosen _ _ _ => if l = chosen ∧ (s.line l).state ≠ .idle then chooseLine t0 s else s
  | .preempt t0 held rec =>
    if rec.phase = .demanding ∧ l ≠ held ∧ permittedForHead s l ∧ (s.line l).state = .idle then
      releaseAndChoose t0 held s
    else s
  | .idle | .check _ _ | .granted _ _ _ _ => s

/-- A line unit tells that its occupant class has changed (R58, R78). -/
def accessOccupantNotice (l : LineNo) (s : State) : State :=
  if permittedForHead s l then laterPreemptionTest s else s

/-- On a request of the peer listener naming a class, an OCCUPIED line takes it as its occupant class (R58). -/
def setOccupant (l : LineNo) (c : ReportClass) (s : State) : State :=
  if (s.line l).state = .occupied then
    if (s.line l).occupant = some c then s
    else accessOccupantNotice l (s.setLine l fun ln => { ln with occupant := some c })
  else s

/-- The four results of a check window (R60). -/
inductive CheckResult where
  | collision | clear | noLoop | unsettled
  deriving DecidableEq, Repr

/-- A CLEAR result: the line is granted to the head, or released (R85). -/
def checkClear (t0 : Nat) (l : LineNo) (s : State) : State :=
  match s.headReport with
  | none => releaseAndIdle l s
  | some r => if s.permits r.matter.cls l then s.setAccess (.granted t0 l r.seq []) else releaseAndChoose t0 l s

/-- The access controller takes a check window result (R83, R84, R85). -/
def accessCheckResult (res : CheckResult) (s : State) : State :=
  match s.access.state with
  | .check t0 l =>
    match res with
    | .collision | .unsettled => chooseLine s.now (raiseHeadContention s)
    | .noLoop => chooseLine t0 s
    | .clear => checkClear t0 l s
  | _ => s

/-- A report passed to the call engine with the grant, in the order received (R87). -/
def passWithGrant (h : HeldReport) (s : State) : State :=
  match s.access.state with
  | .granted t0 l head passed => s.setAccess (.granted t0 l head (passed ++ [h]))
  | _ => s

/-- The access controller, as holder, is told a change of qualified current band (R87, R91). -/
def accessCurrentChange (band : CurrentBand) (s : State) : State :=
  match s.access.state with
  | .preempt t0 l rec =>
    if rec.phase = .demanding then
      s.setAccess (.preempt t0 l { rec with soleSince := if band = .sole then some s.now else none })
    else s
  | .granted _ _ _ _ => passWithGrant (.currentChange band) s
  | _ => s

/-- The access controller, as holder, is told an intrusion: no action of its own while demanding (R87, R93). -/
def accessIntrusion (s : State) : State := passWithGrant .intrusion s

/-- The access controller, as holder, is told a loop loss (R87, R93). -/
def accessLoopLoss (s : State) : State :=
  match s.access.state with
  | .preempt t0 l rec => if rec.phase = .demanding then releaseAndChoose t0 l s else s
  | .granted _ _ _ _ => passWithGrant .loopLoss s
  | _ => s

end Sys2Proof.Machine
end

