-- ==== Sys2Proof/Machine/CallBase.lean ====
section
/-! DEFINITION. The parts of the call engine (chapter 5) that the report queue needs when it takes a report: the head decided anew
(R30, R38), returns without charge (R40), the end of a call (R108), and the offer of a report during a call (R118 to R121). -/

namespace Sys2Proof.Machine

/-- Changes the call context. -/
def State.setCall (s : State) (f : Call → Call) : State := { s with call := f s.call }

/-- Whether the call engine is in a call it may still carry reports in (R34). -/
def State.inCall (s : State) : Bool := s.call.state ≠ .idle && s.call.state ≠ .closing

/-- The queue decides its head anew, and tells the access controller of a change while the call engine is in CE_IDLE (R30,
R38). -/
def decideHead (s : State) : State :=
  if s.firstEligible = s.queue.head then s
  else
    let s1 := { s with queue := { s.queue with head := s.firstEligible } }
    if s.call.state = .idle then accessHeadChange s1 else s1

/-- A report of the batch returned without charge: QUEUED, eligible now or 5 s later, with or without a contention increment
(R40). -/
def returnUncharged (deferred contended : Bool) (seq : Nat) (s : State) : State :=
  decideHead (s.setReport seq fun r =>
    { r with
      state := .queued
      eligibleAt := if deferred then s.clock + 5 else s.clock
      contention := if contended then saturatingSucc 15 r.contention else r.contention })

/-- The call engine enters CLOSING and makes a plain release of its line (R108). -/
def beginClosing (s : State) : State :=
  let s1 := s.setCall fun c => { c with state := .closing }
  match s.call.line with
  | some l => releaseLine .call .plain l s1
  | none => s1

/-- The call engine clears its context, enters CE_IDLE and tells the access controller (R73, R108). -/
def leaveCall (s : State) : State := startAcquisition (s.setCall fun _ => freshCall)

/-- What a cause without an attempt charged does to each report: whether eligible-at lies 5 s ahead, and whether its contention
rises (R109). -/
def endUncharged (deferred contended : Bool) (s : State) : State :=
  leaveCall (s.call.batch.foldl (fun t e => returnUncharged deferred contended e.seq t) (beginClosing s))

/-- The batch head: the batch report that stands first in queue order (R99). -/
def State.batchHead (s : State) : Option Report :=
  s.queue.reports.find? fun r => s.call.batch.any fun e => e.seq = r.seq

/-- Whether an eligible report fits the call: its current destination is the call's, and its mask names the call's line
(R98). -/
def State.fitsCall (s : State) (r : Report) : Bool :=
  s.eligible r && s.call.dest.isSome && s.settings.currentDest r = s.call.dest &&
    match s.call.line with
    | some l => s.settings.maskNames r.matter.cls l
    | none => false

/-- A report taken into the batch goes to IN_CALL (R38). -/
def takeIntoCall (seq : Nat) (s : State) : State := s.setReport seq fun r => { r with state := .inCall }

/-- The place of an inserted report: directly after the block in flight, or first (R119). -/
def insertEntry (inFlight : Bool) (e : BatchEntry) : List BatchEntry → List BatchEntry
  | [] => [e]
  | b :: rest => if inFlight then b :: e :: rest else e :: b :: rest

/-- An inserted report; a fifth entry pushes out the last in send order (R119). -/
def insertReport (seq : Nat) (s : State) : State :=
  let batch := insertEntry s.call.inFlight ⟨seq, 0⟩ s.call.batch
  let s1 := takeIntoCall seq (s.setCall fun c => { c with batch := batch.take 4 })
  decideHead ((batch.drop 4).foldl (fun t e => returnUncharged false false e.seq t) s1)

/-- An appended report (R120). -/
def appendReport (seq : Nat) (s : State) : State :=
  decideHead (takeIntoCall seq (s.setCall fun c => { c with batch := c.batch ++ [⟨seq, 0⟩] }))

/-- A more urgent report that does not fit ends the call SUSPENDED at once, or marks it while a block is in flight (R121). -/
def suspendCall (s : State) : State :=
  if s.call.inFlight then s.setCall fun c => { c with suspend := true } else endUncharged false false s

/-- An eligible report placed during a call is offered and sorted by urgency and fit (R34, R118). -/
def offerReport (r : Report) (s : State) : State :=
  if s.inCall && s.eligible r && !s.call.suspend then
    match s.batchHead with
    | none => s
    | some h =>
      if r.matter.cls.rank < h.matter.cls.rank then
        if s.fitsCall r then insertReport r.seq s else suspendCall s
      else if s.fitsCall r ∧ s.call.batch.length < 4 then appendReport r.seq s
      else s
  else s

end Sys2Proof.Machine
end

