-- ==== Sys2Proof/Machine/Entry.lean ====
section
/-! DEFINITION. A report handed to the report queue (R28, R32 to R36), with the consultation of the peer listener (R132, R134) and
the history ring (R48). -/

namespace Sys2Proof.Machine

/-! ### Sequence numbers (R28) -/

/-- The number after a sequence number: after 65535 comes 0 (00_scope.md 5.3). -/
def nextSeq (n : Nat) : Nat := if n = 65535 then 0 else n + 1

/-- The first number not held, from a candidate on; one step for each number that may be held (R28). -/
def firstFree (held : List Nat) : Nat → Nat → Nat
  | 0, n => n
  | k + 1, n => if n ∈ held then firstFree held k (nextSeq n) else n

/-- The sequence number the next report handed is given (R28). -/
def Queue.newSeq (q : Queue) : Nat := firstFree (q.reports.map (·.seq)) q.reports.length q.counter

/-! ### The history (R48) -/

/-- Writes an entry last; while 64 are present the oldest is removed first (R48). -/
def writeHistory (e : HistoryEntry) (s : State) : State :=
  { s with queue := { s.queue with history := s.queue.history.drop (s.queue.history.length - 63) ++ [e] } }

/-! ### Coverage on entry (R132, R134) -/

/-- A group is shared when it appears in the shared group set and is not 00 (R132). -/
def Settings.sharedGroup (set : Settings) (g : Nat) : Bool := g ≠ 0 && set.shared.contains g

/-- Of two acknowledged entries, the one heard later, and among equals the one whose acknowledgement counted last (R132). -/
def laterWord (a b : HeardEntry) : HeardEntry :=
  if a.heard < b.heard ∨ (a.heard = b.heard ∧ a.ackOrder ≤ b.ackOrder) then b else a

/-- The standing word for a class and a group (R132). -/
def State.standingWord (s : State) (c : ReportClass) (g : Nat) : Option HeardEntry :=
  (s.listener.heard.filter fun e => e.acknowledged && e.key.cls = c && e.key.group = g).foldl
    (fun best e => match best with
      | none => some e
      | some b => some (laterWord b e)) none

/-- Two unit clock readings differ by not more than the coverage window, in either direction. -/
def withinWindow (window a b : Nat) : Bool := a ≤ b + window && b ≤ a + window

/-- The classes a peer's block can cover (R133, R134). -/
def coverable : ReportClass → Bool
  | .fire | .sprinkler | .boiler => true
  | .trouble | .test => false

/-- The peer listener's answer to the queue's consultation: the peer station that covers a report, if any (R134). -/
def consult (m : Matter) (s : State) : Option Nat :=
  if coverable m.cls && m.qualifier.kind ≠ .status && s.settings.sharedGroup m.group then
    match s.standingWord m.cls m.group with
    | none => none
    | some w =>
      if w.key.kind = m.qualifier.kind && withinWindow s.settings.coverage w.heard m.occurred then some w.key.station
      else none
  else none

/-! ### Placing, eviction and refusal (R34 to R36) -/

/-- Whether a report stands before or level with another in queue order: class rank, then occurred time (R29). -/
def notAfter (a b : Matter) : Bool :=
  a.cls.rank < b.cls.rank || (a.cls.rank = b.cls.rank && a.occurred ≤ b.occurred)

/-- Inserts a newly numbered report behind every report that stands before or level with it (R29). -/
def insertInOrder (r : Report) : List Report → List Report
  | [] => [r]
  | x :: rest => if notAfter x.matter r.matter then x :: insertInOrder r rest else r :: x :: rest

/-- The report the queue makes of what it is handed (R25). -/
def newReport (seq : Nat) (m : Matter) (s : State) : Report where
  seq := seq
  matter := m
  state := .queued
  eligibleAt := s.clock
  restEnd := none
  attempts := 0
  contention := 0
  reassert := m.qualifier = .reassert

/-- The victim of an eviction for a new report of a class: the last report in queue order among the not-IN_CALL ones of the
greatest rank, when that rank is strictly greater than the new report's (R35). -/
def victim (c : ReportClass) (reports : List Report) : Option Report :=
  let waiting := reports.filter fun r => r.state ≠ .inCall
  let greatest := waiting.foldl (fun g r => max g r.matter.cls.rank) 0
  if c.rank < greatest then (waiting.filter fun r => r.matter.cls.rank = greatest).getLast? else none

/-- A report placed in the queue; the head is decided anew, and the report offered to a call in progress (R34). -/
def placeReport (r : Report) (s : State) : State :=
  offerReport r (decideHead { s with queue := { s.queue with reports := insertInOrder r s.queue.reports } })

/-- A report removed to make room, written to the history as DROPPED (R35). -/
def evict (v : Report) (s : State) : State :=
  let s1 := { s with queue := { s.queue with reports := s.queue.reports.filter fun r => r.seq ≠ v.seq } }
  writeHistory ⟨v.seq, v.matter, .dropped, s.clock⟩ s1

/-- A report refused: the overflow count rises and the overflow-in-force mark is set (R36). -/
def refuse (seq : Nat) (m : Matter) (s : State) : State :=
  let s1 := writeHistory ⟨seq, m, .dropped, s.clock⟩ s
  { s1 with queue := { s1.queue with overflow := saturatingSucc 65535 s1.queue.overflow, overflowMark := true } }

/-- What becomes of a report handed to the queue; a refusal says whether it begins an overflow. -/
inductive EntryResult where
  | notRouted
  | covered
  | placed
  | refused (overflowBegins : Bool)
  deriving DecidableEq, Repr

/-- The counter passes over the number given to a report (R28). -/
def giveSeq (s : State) : State := { s with queue := { s.queue with counter := nextSeq s.queue.newSeq } }

/-- A numbered report with a route, not covered on entry: placed, placed in place of a victim, or refused (R34 to R36). -/
def enterNumbered (seq : Nat) (m : Matter) (s : State) : State × EntryResult :=
  if s.queue.reports.length < 32 then (placeReport (newReport seq m s) s, .placed)
  else
    match victim m.cls s.queue.reports with
    | some v => (placeReport (newReport seq m s) (evict v s), .placed)
    | none => (refuse seq m s, .refused (!s.queue.overflowMark))

/-- A report handed to the report queue (R28, R32 to R36). -/
def enterReport (m : Matter) (s : State) : State × EntryResult :=
  let seq := s.queue.newSeq
  let s1 := giveSeq s
  if s.settings.hasRoute m.cls then
    match consult m s with
    | some peer => (writeHistory ⟨seq, m, .covered peer, s.clock⟩ s1, .covered)
    | none => enterNumbered seq m s1
  else (writeHistory ⟨seq, m, .notRouted, s.clock⟩ s1, .notRouted)

end Sys2Proof.Machine
end

