-- ==== Sys2Proof/Machine/Trouble.lean ====
section
/-! DEFINITION. The trouble unit (chapter 7) and the report queue's notices to it: conditions (R138 to R140), trouble reports and
pending entry (R141 to R143), overflow and the freeing of space (R36, R37), communication failure (R144). -/

namespace Sys2Proof.Machine

/-- The event code of a condition (section 7.1). -/
def Condition.event : Condition → Nat
  | .channelOpen _ => 340
  | .channelShort _ => 341
  | .lineDead _ => 350
  | .lineNoLoop _ => 351
  | .commFail => 360
  | .queueOverflow => 361
  | .stationClash => 362
  | .configDefaulted => 370

/-- The group of a condition's reports: 01 to 08 for channels, 11 to 14 for lines, 00 for the unit (R27, section 7.1). -/
def Condition.group : Condition → Nat
  | .channelOpen c | .channelShort c => channelNumber c
  | .lineDead l | .lineNoLoop l => 10 + lineNumber l
  | .commFail | .queueOverflow | .stationClash | .configDefaulted => 0

/-- The source of a condition's reports (section 7.1). -/
def Condition.source : Condition → Source
  | .channelOpen c | .channelShort c => .channel c
  | .lineDead l | .lineNoLoop l => .line l
  | .commFail | .queueOverflow | .stationClash | .configDefaulted => .unit

/-- A condition's begin report (qualifier 1) or end report (qualifier 3) (R141). -/
def Condition.report (c : Condition) (begins : Bool) (since : Nat) : Matter where
  cls := .trouble
  qualifier := if begins then .alarm else .restore
  event := c.event
  group := c.group
  source := c.source
  value := none
  occurred := since

/-- The change of a condition's record when it becomes active (R139) or inactive (R140); its pending report is discarded
(R141). -/
def ConditionRecord.change (active : Bool) (clock : Nat) (r : ConditionRecord) : ConditionRecord :=
  { r with
    active := active
    unacknowledged := active || r.unacknowledged
    since := some clock
    occurrences := if active then saturatingSucc 255 r.occurrences else r.occurrences
    pending := none }

/-- A refused trouble report becomes its condition's pending report, last in order of refusal (R141, R142). -/
def makePending (c : Condition) (m : Matter) (s : State) : State :=
  let s1 := s.setCond c fun r => { r with pending := some ⟨m, s.clock, s.trouble.refusals⟩ }
  { s1 with trouble := { s1.trouble with refusals := s1.trouble.refusals + 1 } }

/-- A condition's report handed to the queue, pending if it is refused; with whether the refusal begins an overflow. -/
def handTrouble (c : Condition) (m : Matter) (s : State) : State × Bool :=
  match enterReport m s with
  | (s1, .refused begins) => (makePending c m s1, begins)
  | (s1, _) => (s1, false)

/-- A notice that a condition is active or inactive (R138 to R141), less what an overflow it begins leads to. -/
def noticeOnly (c : Condition) (active : Bool) (s : State) : State × Bool :=
  if (s.cond c).active = active then (s, false)
  else
    let s1 := s.setCond c (·.change active s.clock)
    if s.settings.troubleReporting then handTrouble c (c.report active s.clock) s1 else (s1, false)

/-- QUEUE_OVERFLOW becomes active when a refusal sets the mark (R36). Its own refusal begins no further overflow, for the mark
is then set. -/
def overflowBegins (begins : Bool) (s : State) : State :=
  if begins then (noticeOnly .queueOverflow true s).1 else s

/-- A notice to the trouble unit that a condition is active or inactive (R138). -/
def tellTrouble (c : Condition) (active : Bool) (s : State) : State :=
  let r := noticeOnly c active s
  overflowBegins r.2 r.1

/-- A report handed to the report queue by a block that holds nothing for a refusal (R36). -/
def handReport (m : Matter) (s : State) : State :=
  match enterReport m s with
  | (s1, .refused begins) => overflowBegins begins s1
  | (s1, _) => s1

/-! ### The freeing of space (R37, R143) -/

/-- The pending report of a condition, if it comes before the best found so far. -/
def olderPending (s : State) (best : Option (Condition × PendingReport)) (c : Condition) : Option (Condition × PendingReport) :=
  match (s.cond c).pending, best with
  | none, _ => best
  | some p, none => some (c, p)
  | some p, some b => if p.order < b.2.order then some (c, p) else some b

/-- The condition whose report has been pending longest (R143). -/
def oldestPending (s : State) : Option (Condition × PendingReport) := allConditions.foldl (olderPending s) none

/-- Pending reports handed one after another, for as many as there are free places; none further after a refusal (R143). -/
def handPending : Nat → State → State
  | 0, s => s
  | n + 1, s =>
    match oldestPending s with
    | none => s
    | some (c, p) =>
      match enterReport p.matter s with
      | (s1, .refused begins) => overflowBegins begins (makePending c p.matter s1)
      | (s1, _) => handPending n (s1.setCond c fun r => { r with pending := none })

/-- After a removal the queue looks at its count: at 24 or fewer the overflow ends, and below 32 the trouble unit is told that
space has been freed (R37). DEDUCED (log entry 12): R37 leaves open which of a pending trouble report and another block's report of
the same instant is handed first; the pending ones are handed here, inside the removal, before any other. -/
def afterRemoval (s : State) : State :=
  let count := s.queue.reports.length
  let s1 :=
    if count ≤ 24 ∧ s.queue.overflowMark then
      tellTrouble .queueOverflow false { s with queue := { s.queue with overflowMark := false } }
    else s
  if count < 32 then handPending (32 - s1.queue.reports.length) s1 else s1

/-- A report leaves the queue by delivery or coverage: it is written to the history, the head is decided anew, and R37 applies
(R39, R47). -/
def removeReport (r : Report) (fate : Fate) (s : State) : State :=
  let s1 := { s with queue := { s.queue with reports := s.queue.reports.filter fun x => x.seq ≠ r.seq } }
  afterRemoval (decideHead (writeHistory ⟨r.seq, r.matter, fate, s.clock⟩ s1))

/-! ### Communication failure (R42, R144) -/

/-- The trouble unit is told that a call has ended successfully (R144). -/
def callSucceeded (s : State) : State := if s.anyResting then s else tellTrouble .commFail false s

/-- The retry spacing: 5 s times the attempts just reached, and 60 s where that is larger (R41). -/
def retrySpacing (attempts : Nat) : Nat := min (5 * attempts) 60

/-- A report of the batch returned with an attempt charged: QUEUED with its retry spacing, or RESTING at the class maximum, which the
attempts never exceed and which makes COMM_FAIL active (R41, R42). DEDUCED (log entry 12): COMM_FAIL's notice, and the begin report it
hands, come within the return, before the next report of the batch is returned. -/
def returnCharged (seq : Nat) (s : State) : State :=
  match s.report seq with
  | none => s
  | some r =>
    let most := s.settings.maxima.get r.matter.cls
    let attempts := r.attempts + 1
    if attempts < most then
      decideHead (s.setReport seq fun x =>
        { x with state := .queued, attempts := attempts, eligibleAt := s.clock + retrySpacing attempts })
    else
      tellTrouble .commFail true (decideHead (s.setReport seq fun x =>
        { x with state := .resting, attempts := most, restEnd := some (s.clock + 60 * s.settings.restMinutes) }))

end Sys2Proof.Machine
end

