-- ==== Sys2Proof/Machine/CallEngine.lean ====
section
/-! DEFINITION. The call engine (chapter 5): taking the grant, dialling, the handshake, blocks and acknowledgement, the pause, and
how a call ends. -/

namespace Sys2Proof.Machine

/-! ### How a call ends (R108, R109) -/

/-- A call ends with an attempt charged to every report of the batch, one after another in send order; one that comes to rest has
COMM_FAIL's begin report handed before those behind it are returned (R108, R109; DEDUCED, log entry 12). -/
def endCharged (s : State) : State :=
  leaveCall (s.call.batch.foldl (fun t e => returnCharged e.seq t) (beginClosing s))

/-- A call ends for a cause, its undelivered reports returned as the cause says (R109). -/
def endCall (cause : EndCause) (s : State) : State :=
  match cause with
  | .noDialTone | .destBusy | .noAnswer | .noAck | .loopLost => endCharged s
  | .yielded | .intruded => endUncharged false true s
  | .suspended => endUncharged false false s
  | .maintAbort => endUncharged true false s

/-! ### Dialling (R100, R101) -/

/-- The symbols of the call's destination. -/
def State.dialSyms (s : State) : List DialSym :=
  match s.call.dest with
  | some d => s.settings.dest d
  | none => []

/-- Requests a tone on the line the call holds. -/
def callTone (sym : Sym) (duration : Nat) (s : State) : State :=
  match s.call.line with
  | some l => requestTone l sym duration s
  | none => s

/-- The symbol at the position is sent: a digit for 80 ms, or 2000 ms of nothing for a pause mark; past the last symbol
dialling has ended and the handshake is awaited for 40 s (R101). -/
def dialSymbol (s : State) : State :=
  match s.dialSyms[s.call.position]? with
  | some (.digit d) =>
    callTone (.digit d) 80 (s.setCall fun c => { c with position := c.position + 1, gapEnd := none, inPauseMark := false })
  | some .pause => s.setCall fun c => { c with gapEnd := some (s.now + 2000), inPauseMark := true }
  | none =>
    s.setCall fun c =>
      { c with
        state := .awaitHandshake, gapEnd := none, inPauseMark := false
        handshakeDeadline := some (s.now + 40000), progress := .none }

/-- Dialling begins with the destination's first symbol (R100). -/
def startDialling (s : State) : State :=
  dialSymbol (s.setCall fun c => { c with state := .dialling, dialDeadline := none, position := 0 })

/-! ### Blocks (R103, R104) -/

/-- A number as decimal digits with leading zeros to a width; a wider number keeps its lowest digits. -/
def paddedDigits : Nat → Nat → List Nat
  | 0, _ => []
  | w + 1, n => paddedDigits w (n / 10) ++ [n % 10]

/-- The weighted sum of the check: i times the i-th value, from a first weight on (R104). -/
def weightedSum : Nat → List Nat → Nat
  | _, [] => 0
  | i, v :: rest => i * v + weightedSum (i + 1) rest

/-- The check symbol over information digits (R104). -/
def checkSym (info : List Nat) : Sym :=
  match weightedSum 1 info % 13 with
  | 10 => .a
  | 11 => .b
  | 12 => .c
  | n => digitSym n

/-- The information digits of a report's block (R103). -/
def blockInfo (set : Settings) (m : Matter) : List Nat :=
  paddedDigits 4 set.account ++ paddedDigits 2 set.station ++ [m.cls.rank, m.qualifier.code] ++ paddedDigits 3 m.event
    ++ paddedDigits 2 m.group ++ (match m.value with | some v => paddedDigits 4 v | none => [])

/-- The symbols of a report's block, from the opening * to the closing # (R103). -/
def blockSyms (set : Settings) (m : Matter) : List Sym :=
  let info := blockInfo set m
  .star :: info.map digitSym ++ [checkSym info, .hash]

/-- The symbols of the block of the first batch entry. -/
def State.flightSyms (s : State) : List Sym :=
  match s.call.batch.head? with
  | none => []
  | some e =>
    match s.report e.seq with
    | some r => blockSyms s.settings r.matter
    | none => []

/-- One more send of the first batch entry is completed, of at most four (section 5.1, R106). -/
def countSend : List BatchEntry → List BatchEntry
  | [] => []
  | e :: rest => { e with sends := saturatingSucc 4 e.sends } :: rest

/-- The symbol at the position is sent for 60 ms; past the closing # the block has ended, its sends rise, and its
acknowledgement is awaited for 1.5 s (R103). -/
def sendSymbol (s : State) : State :=
  match s.flightSyms[s.call.position]? with
  | some y => callTone y 60 (s.setCall fun c => { c with position := c.position + 1, gapEnd := none })
  | none =>
    s.setCall fun c =>
      { c with
        state := .awaitAck, gapEnd := none, batch := countSend c.batch
        ackDeadline := some (s.now + 1500) }

/-- The block of the first batch entry begins at its opening * (R102, R103, R106, R107). -/
def beginBlock (s : State) : State :=
  sendSymbol (s.setCall fun c =>
    { c with
      state := .sendingBlock, inFlight := true, position := 0, gapEnd := none
      leadIn := none, ackDeadline := none, ackEndAwaited := false, resendDue := false })

/-! ### Taking the grant (R97, R98) -/

/-- Whether a report is a companion of the granted head (R98). -/
def isCompanion (s : State) (head : Nat) (dest : Option DestId) (l : LineNo) (r : Report) : Bool :=
  r.seq ≠ head && s.eligible r && s.settings.currentDest r = dest && s.settings.maskNames r.matter.cls l

/-- The batch: the granted head, and up to three companions in queue order (R98). -/
def formBatch (s : State) (head : Nat) (dest : Option DestId) (l : LineNo) : List Nat :=
  (head :: (s.queue.reports.filter (isCompanion s head dest l)).map (·.seq)).take 4

/-- A call pauses at an intrusion; in a pause the pause end moves (R112). -/
def pauseCall (s : State) : State :=
  match s.call.state with
  | .dialtoneWait | .dialling | .awaitHandshake | .sendingBlock | .awaitAck =>
    s.setCall fun c =>
      { c with
        state := .paused, gapEnd := none, inPauseMark := false
        pause := some ⟨c.state, s.now + 1000, none, false⟩ }
  | .paused =>
    s.setCall fun c => { c with pause := c.pause.map fun p => { p with pauseEnd := s.now + 1000 } }
  | .idle | .closing => s

/-- A loop loss ends the call (R110). -/
def callLoopLoss (s : State) : State := if s.inCall then endCall .loopLost s else s

/-- A report of the held line taken by the call engine: it takes no action on changes of qualified current (R97). -/
def takeHeldReport (h : HeldReport) (s : State) : State :=
  match h with
  | .currentChange _ => s
  | .intrusion => pauseCall s
  | .loopLoss => callLoopLoss s

/-- The line unit's holder becomes the call engine (R59). -/
def handLineToCall (l : LineNo) (s : State) : State := s.setLine l fun ln => { ln with holder := some .call }

/-- The call engine takes the grant of a line for a head (R97). DEDUCED (log entry 17): the reports passed with the grant are taken
last. R97 calls them events of DIALTONE_WAIT; where DIAL is heard at the take the call is in DIALLING by then, so that a passed
intrusion pauses it from DIALLING, and the pause's end with no demand ends the call INTRUDED (R116). -/
def takeGrant (l : LineNo) (r : Report) (passed : List HeldReport) (s : State) : State :=
  let s1 := s.setCall fun _ => { freshCall with state := .dialtoneWait, dialDeadline := some (s.now + 4000) }
  let s2 := (handLineToCall l s1).setAccess .idle
  let dest := s2.settings.currentDest r
  let seqs := formBatch s2 r.seq dest l
  let s3 := s2.setCall fun c => { c with line := some l, dest := dest, batch := seqs.map fun q => ⟨q, 0⟩ }
  let s4 := decideHead (seqs.foldl (fun t q => takeIntoCall q t) s3)
  let s5 := if (s4.line l).dialHeard then startDialling s4 else s4
  passed.foldl (fun t h => takeHeldReport h t) s5

/-! ### Acknowledgement (R105, R107) -/

/-- Whether an ACK recognised now counts for the block in flight: its ACK wait runs, or expired at this instant (R105). -/
def ackCounts (s : State) : Bool :=
  s.call.inFlight &&
    ((match s.call.ackDeadline with
      | some d => s.now ≤ d
      | none => false) || s.call.ackExpired = some s.now)

/-- The block in flight is delivered: its entry leaves the batch, and the next block waits for the end of the ACK, or for 3 s
(R105, R107). A send begun again at the same instant stops at the end of its current symbol. -/
def ackedCall (now : Nat) (c : Call) : Call :=
  { c with
    state := if c.state = .paused then .paused else .awaitAck
    batch := c.batch.tail, inFlight := false, gapEnd := none
    ackDeadline := none, ackExpired := none, resendDue := false
    leadIn := some (now + 3000), ackEndAwaited := true }

/-- The queue is told that a report of the batch is delivered, with the call's line and destination (R39). -/
def deliver (seq : Nat) (line : Option LineNo) (dest : Option DestId) (s : State) : State :=
  match s.report seq, line, dest with
  | some r, some l, some d => removeReport r (.delivered l d) s
  | _, _, _ => s

/-- An ACK that counts (R105, R107, R121): the report is delivered; with the batch empty the call has ended successfully, with
the suspend mark set it ends SUSPENDED, and otherwise the next block is awaited. DEDUCED (log entry 11): R105 gives its acts no order.
The call context is updated first, so that a pending trouble report placed in the freed space meets a batch without the delivered
entry and no block in flight, and with the call at its end the line is released first too. -/
def countAck (s : State) : State :=
  match s.call.batch with
  | [] => s
  | e :: rest =>
    let s1 := s.setCall (ackedCall s.now)
    if rest.isEmpty then
      leaveCall (callSucceeded (deliver e.seq s.call.line s.call.dest (beginClosing s1)))
    else if s.call.suspend then
      let s2 := deliver e.seq s.call.line s.call.dest (beginClosing s1)
      leaveCall (s2.call.batch.foldl (fun t b => returnUncharged false false b.seq t) s2)
    else deliver e.seq s.call.line s.call.dest s1

/-! ### The pause (R113 to R117) -/

/-- The call engine leaves PAUSED for the state its pause left (R117). DEDUCED (log entry 26): a pause from DIALLING after the last
symbol of the destination leaves no symbol to send at the resume, and R117 names none; dialling then ends at the resume, and the
handshake's 40 s count from there. -/
def resumeCall (s : State) : State :=
  match s.call.pause with
  | none => s
  | some p =>
    let s1 := s.setCall fun c => { c with state := p.from_, pause := none }
    match p.from_ with
    | .dialtoneWait => if p.dialNoted then startDialling s1 else s1
    | .dialling => dialSymbol s1
    | .awaitHandshake => if reached s.call.leadIn s.now then beginBlock s1 else s1
    | .sendingBlock => beginBlock s1
    | .awaitAck => if s.call.resendDue ∨ reached s.call.leadIn s.now then beginBlock s1 else s1
    | .idle | .paused | .closing => s1

/-- A complete yield demand is compared with the batch head: the call yields to a strictly more urgent class, and otherwise
resumes at once (R115). -/
def answerDemand (c : ReportClass) (s : State) : State :=
  match s.batchHead with
  | some h => if c.rank < h.matter.cls.rank then endCall .yielded s else resumeCall s
  | none => resumeCall s

/-- The pause ends with no demand complete (R116). -/
def endPause (s : State) : State :=
  match s.call.pause with
  | none => s
  | some p => if p.from_ = .dialling then endCall .intruded s else resumeCall s

/-- Changes the pause record. -/
def State.setPause (s : State) (f : PauseRecord → PauseRecord) : State :=
  s.setCall fun c => { c with pause := c.pause.map f }

/-- The class of the yield demand a digit completes: a class digit begun not more than 300 ms after a D of 500 ms or more
ended (R114, R126). -/
def demandClass (dEnded : Option Nat) (y : Sym) (onset : Nat) : Option ReportClass :=
  match dEnded, y.classOf with
  | some e, some c => if onset ≤ e + 300 then some c else none
  | _, _ => none

/-- A symbol heard in PAUSED (R114). -/
def pausedSymbol (y : Sym) (duration : Nat) (s : State) : State :=
  match s.call.pause with
  | none => s
  | some p =>
    if y = .d then s.setPause fun q => { q with dEnded := if 500 ≤ duration then some s.now else none }
    else
      match demandClass p.dEnded y (s.now - duration) with
      | some c => answerDemand c s
      | none => s.setPause fun q => { q with dEnded := none }

/-! ### Tone reports in a call -/

/-- The state whose deadlines run: the state paused from in a pause, and otherwise the call state (R113). -/
def Call.working (c : Call) : CallState :=
  match c.state, c.pause with
  | .paused, some p => p.from_
  | st, _ => st

/-- A DIAL recognition (R100, R113). -/
def callDial (s : State) : State :=
  match s.call.state with
  | .dialtoneWait => startDialling s
  | .paused =>
    if s.call.working = .dialtoneWait then
      (s.setCall fun c => { c with dialDeadline := none }).setPause fun p => { p with dialNoted := true }
    else s
  | _ => s

/-- BUSY while awaiting the handshake, in a pause from it too (R102, R113). -/
def callBusy (s : State) : State := if s.call.working = .awaitHandshake then endCall .destBusy s else s

/-- A HANDSHAKE recognition (R102, R113). -/
def callHandshake (s : State) : State :=
  if s.call.working = .awaitHandshake then s.setCall fun c => { c with progress := .recognised } else s

/-- The end of the HANDSHAKE tone: the lead-in is due 250 ms later (R102, R113). -/
def callHandshakeEnd (s : State) : State :=
  if s.call.working = .awaitHandshake then
    s.setCall fun c =>
      { c with progress := .ended s.now, handshakeDeadline := none, leadIn := some (s.now + 250) }
  else s

/-- An ACK recognition (R105, R113): it may count in AWAIT_ACK, in SENDING_BLOCK, and in a pause from AWAIT_ACK. -/
def callAck (s : State) : State :=
  match s.call.state with
  | .awaitAck | .sendingBlock => if ackCounts s then countAck s else s
  | .paused => if s.call.working = .awaitAck ∧ ackCounts s then countAck s else s
  | _ => s

/-- Whether the end of a counted ACK is still awaited: it has not been reported, and the 3 s are not over (R107). -/
def ackEndExpected (s : State) : Bool :=
  s.call.ackEndAwaited && match s.call.leadIn with
    | some due => s.now ≤ due
    | none => false

/-- The end of the ACK tone: the lead-in of the next block is due 250 ms later (R107, R113). -/
def callAckEnd (s : State) : State :=
  if s.call.working = .awaitAck ∧ ackEndExpected s then
    s.setCall fun c => { c with leadIn := some (s.now + 250), ackEndAwaited := false }
  else s

/-- A symbol: it matters only in PAUSED (R102, R103, R114). -/
def callSymbol (y : Sym) (duration : Nat) (s : State) : State :=
  if s.call.state = .paused then pausedSymbol y duration s else s

/-! ### Deadlines -/

/-- The ACK deadline is reached with no ACK counted (R106, R113). -/
def expireAck (s : State) : State :=
  let sends := match s.call.batch.head? with
    | some e => e.sends
    | none => 0
  if sends < 4 then
    let s1 := s.setCall fun c => { c with ackDeadline := none, ackExpired := some s.now }
    if s.call.state = .paused then s1.setCall fun c => { c with resendDue := true } else beginBlock s1
  else endCall .noAck s

/-- The gap after a dialled digit, or a pause mark, is over (R101). -/
def endDialGap (s : State) : State :=
  dialSymbol (if s.call.inPauseMark then
      s.setCall fun c => { c with position := c.position + 1, inPauseMark := false, gapEnd := none }
    else s)

/-- The tone the call engine asked for is finished: its gap of 80 ms after a dialled digit or 60 ms after a block symbol begins
(R101, R103). -/
def callToneDone (l : LineNo) (s : State) : State :=
  if s.call.line = some l ∧ s.tone.sounding.isNone then
    match s.call.state with
    | .dialling => s.setCall fun c => { c with gapEnd := some (s.now + 80) }
    | .sendingBlock => s.setCall fun c => { c with gapEnd := some (s.now + 60) }
    | _ => s
  else s

/-- The tone the access controller asked for is finished: 200 ms of nothing follow the D, and a further demand may begin 400 ms
after the class digit (R90). -/
def accessToneDone (l : LineNo) (y : Sym) (s : State) : State :=
  match s.access.state with
  | .preempt t0 held rec =>
    if held = l ∧ rec.phase = .demanding then
      if y = .d then s.setAccess (.preempt t0 held { rec with gapEnd := some (s.now + 200) })
      else if rec.demands < 3 then s.setAccess (.preempt t0 held { rec with nextDemand := some (s.now + 400) })
      else s
    else s
  | _ => s

end Sys2Proof.Machine
end

