-- ==== Sys2Proof/Machine/PeerListener.lean ====
section
/-! DEFINITION. The peer listener (chapter 6): streams (R123 to R125), yield demands (R126), blocks heard and the heard table (R127 to
R130), the station clash (R131), coverage (R133) and re-assert (R135). -/

namespace Sys2Proof.Machine

/-- Changes the heard table. -/
def State.setHeard (s : State) (f : List HeardEntry → List HeardEntry) : State :=
  { s with listener := { s.listener with heard := f s.listener.heard } }

/-- An awaiting acknowledgement that named an entry names nothing from then on (R128, R129). -/
def Decoder.unname (key : HeardKey) (d : Decoder) : Decoder :=
  { d with awaiting := d.awaiting.map fun a => if a.names = some key then { a with names := none } else a }

/-- Every line's awaiting acknowledgement that named an entry names nothing from then on. -/
def unnameAll (key : HeardKey) (s : State) : State :=
  allLines.foldl (fun t l => t.setDecoder l (·.unname key)) s

/-- A heard entry is removed (R128, R129). -/
def forgetHeard (key : HeardKey) (s : State) : State :=
  unnameAll key (s.setHeard fun es => es.filter fun e => e.key ≠ key)

/-- A block is entered in the heard table, placed newest: a matching entry is updated, and otherwise the oldest makes room when
16 are held (R128). -/
def enterHeard (key : HeardKey) (s : State) : State :=
  let entry : HeardEntry := ⟨key, s.clock, false, 0⟩
  let s1 :=
    if s.listener.heard.any fun e => e.key = key then forgetHeard key s
    else if s.listener.heard.length < 16 then s
    else match s.listener.heard.head? with
      | some oldest => forgetHeard oldest.key s
      | none => s
  s1.setHeard fun es => es ++ [entry]

/-! ### Valid blocks (R124) -/

/-- The value of a digit symbol. -/
def Sym.digit? : Sym → Option Nat
  | .digit k => some k.val
  | _ => none

/-- The values of symbols that are all digits. -/
def digitsOf : List Sym → Option (List Nat)
  | [] => some []
  | y :: rest =>
    match y.digit?, digitsOf rest with
    | some d, some ds => some (d :: ds)
    | _, _ => none

/-- Digits read together as a number. -/
def numberOf (ds : List Nat) : Nat := ds.foldl (fun n d => 10 * n + d) 0

/-- The qualifier of a number from 1 to 6 (section 2.1). -/
def Qualifier.ofCode : Nat → Option Qualifier
  | 1 => some .alarm
  | 2 => some .alarmValue
  | 3 => some .restore
  | 4 => some .restoreValue
  | 5 => some .reassert
  | 6 => some .status
  | _ => none

/-- What a valid block carries. -/
structure HeardBlock where
  account : Nat
  station : Nat
  cls : ReportClass
  qualifier : Qualifier
  event : Nat
  group : Nat
  deriving DecidableEq, Repr

/-- The fields of information digits that pass the tests of R124. The information symbols are the account (four), the station
number (two), the class digit, the qualifier, the event code (three), the group (two), and the value (four) (R103; log entry
22). -/
def blockOf (info : List Nat) : Option HeardBlock :=
  let station := numberOf ((info.drop 4).take 2)
  let event := numberOf ((info.drop 8).take 3)
  match (digitSym (info.getD 6 9)).classOf, Qualifier.ofCode (info.getD 7 0) with
  | some c, some q =>
    let valued := q = .alarmValue ∨ q = .restoreValue ∨ (q = .status ∧ event = 310)
    if 1 ≤ station ∧ station ≤ 31 ∧ 100 ≤ event ∧ event ≤ 399 ∧ info.length = (if valued then 17 else 13) then
      some ⟨numberOf (info.take 4), station, c, q, event, numberOf ((info.drop 11).take 2)⟩
    else none
  | _, _ => none

/-- The valid block of a stream ended by #, if it is one (R124). -/
def judgeStream (syms : List Sym) : Option HeardBlock :=
  match syms.getLast?, digitsOf syms.dropLast with
  | some check, some info => if checkSym info = check then blockOf info else none
  | _, _ => none

/-! ### A valid block ends (R127, R131) -/

/-- A block with this station's own account and number: the clash is active for 600 s from now (R131). -/
def stationClash (s : State) : State :=
  let s1 := { s with listener := { s.listener with clashEnd := some (s.clock + 600) } }
  if s.listener.clashEnd.isSome then s1 else tellTrouble .stationClash true s1

/-- The line's awaiting acknowledgement after a valid block (R127). -/
def awaitAck (l : LineNo) (names : Option HeardKey) (s : State) : State :=
  s.setDecoder l fun d => { d with awaiting := some ⟨s.now + 1500, names⟩ }

/-- A valid block ends on a line (R127). -/
def takeBlock (l : LineNo) (b : HeardBlock) (s : State) : State :=
  let s1 := setOccupant l b.cls s
  if b.account ≠ s.settings.account then awaitAck l none s1
  else if b.station = s.settings.station then stationClash (awaitAck l none s1)
  else if coverable b.cls ∧ b.qualifier ≠ .status then
    let key : HeardKey := ⟨b.station, b.cls, b.qualifier.kind, b.event, b.group⟩
    awaitAck l (some key) (enterHeard key s1)
  else awaitAck l none s1

/-! ### Symbols and other reports (R123, R125, R126) -/

/-- Makes a line's D-ended absent or an instant. -/
def setDEnded (l : LineNo) (e : Option Nat) (s : State) : State := s.setDecoder l fun d => { d with dEnded := e }

/-- Begins, replaces or ends a line's stream. -/
def setStream (l : LineNo) (st : Option Stream) (s : State) : State := s.setDecoder l fun d => { d with stream := st }

/-- A symbol with no stream in progress (R123, R126). -/
def peerSymbolAlone (l : LineNo) (y : Sym) (duration : Nat) (s : State) : State :=
  if y = .star then setDEnded l none (setStream l (some ⟨[], s.now⟩) s)
  else if y = .d then setDEnded l (if 500 ≤ duration then some s.now else none) s
  else
    match demandClass (s.decoder l).dEnded y (s.now - duration) with
    | some c => setOccupant l c (setDEnded l none s)
    | none => setDEnded l none s

/-- A stream in progress meets # in time: it is judged, and becomes absent either way (R123, R124). -/
def endStream (l : LineNo) (st : Stream) (s : State) : State :=
  match judgeStream st.syms with
  | some b => takeBlock l b (setStream l none s)
  | none => discardStream l s

/-- A symbol reported on a line to the peer listener (R123, R125, R126). -/
def peerSymbol (l : LineNo) (y : Sym) (duration : Nat) (s : State) : State :=
  match (s.decoder l).stream with
  | none => peerSymbolAlone l y duration s
  | some st =>
    if y = .star ∨ y = .d ∨ st.latestEnd + 300 < s.now - duration then
      peerSymbolAlone l y duration (discardStream l s)
    else if y = .hash then endStream l st s
    else if st.syms.length < 18 then setStream l (some ⟨st.syms ++ [y], s.now⟩) s
    else peerSymbolAlone l y duration (discardStream l s)

/-! ### Acknowledgements (R130, R133, R135) -/

/-- The own reports an acknowledged standing word covers (R133). -/
def coveredReports (e : HeardEntry) (s : State) : List Report :=
  s.queue.reports.filter fun r =>
    (r.state = .queued || r.state = .resting) && r.matter.cls = e.key.cls && coverable r.matter.cls
      && r.matter.qualifier.kind = e.key.kind && r.matter.group = e.key.group
      && withinWindow s.settings.coverage e.heard r.matter.occurred

/-- A coverage request (R47): carried out on a report present and QUEUED or RESTING. -/
def coverReport (peer : Nat) (seq : Nat) (s : State) : State :=
  match s.report seq with
  | some r => if r.state = .inCall then s else removeReport r (.covered peer) s
  | none => s

/-- The channels whose alarm a peer's RESTORE contradicts (R135). -/
def contradicted (e : HeardEntry) (s : State) (c : ChannelNo) : Bool :=
  (s.chan c).state = .alarm && !(s.chan c).bypass && (s.chanSettings c).cls = e.key.cls && (s.chanSettings c).group = e.key.group

/-- Whether a report of kind ALARM for a class and a group is in the queue (R135). -/
def alarmOwed (c : ReportClass) (g : Nat) (s : State) : Bool :=
  s.queue.reports.any fun r => r.matter.cls = c && r.matter.group = g && r.matter.qualifier.kind = .alarm

/-- The re-assert report of a channel, which sets its last queued kind to ALARM (R19, R135). -/
def reassert (c : ChannelNo) (s : State) : State :=
  let set := s.chanSettings c
  handReport ⟨set.cls, .reassert, set.event, set.group, .channel c, none, s.clock⟩
    (s.setChan c fun ch => { ch with lastKind := .alarm })

/-- An acknowledged RESTORE raises at most one re-assert, for the lowest-numbered channel still in alarm (R135). -/
def contradict (e : HeardEntry) (s : State) : State :=
  if e.key.kind = .restore then
    match allChannels.find? (contradicted e s) with
    | none => s
    | some c => if alarmOwed e.key.cls e.key.group s then s else reassert c s
  else s

/-- The peer listener acts on an entry just acknowledged, if its group is shared and it is the standing word: coverage first,
then re-assert (R133, R135). DEDUCED (log entry 12): where the coverage frees space, R37 and R143 leave open whether the pending
trouble reports or the re-assert is handed first; the pending ones are handed first, with the coverage. -/
def actOnAcknowledged (e : HeardEntry) (s : State) : State :=
  if s.settings.sharedGroup e.key.group ∧ s.standingWord e.key.cls e.key.group = some e then
    contradict e ((coveredReports e s).foldl (fun t r => coverReport e.key.station r.seq t) s)
  else s

/-- A heard entry becomes acknowledged, last of all that have (R130, R132). -/
def HeardEntry.acked (order : Nat) (e : HeardEntry) : HeardEntry := { e with acknowledged := true, ackOrder := order }

/-- The entry a counted acknowledgement names becomes acknowledged, and is acted on (R130). -/
def acknowledgeHeard (key : HeardKey) (s : State) : State :=
  let order := s.listener.ackCount + 1
  let s1 := s.setHeard fun es => es.map fun e => if e.key = key then e.acked order else e
  let s2 := { s1 with listener := { s1.listener with ackCount := order } }
  match s2.listener.heard.find? fun e => e.key = key with
  | some e => actOnAcknowledged e s2
  | none => s2

/-- An ACK recognition on a line: it counts while an acknowledgement is awaited there (R130). -/
def peerAck (l : LineNo) (s : State) : State :=
  match (s.decoder l).awaiting with
  | none => s
  | some a =>
    if s.now ≤ a.deadline then
      let s1 := s.setDecoder l fun d => { d with awaiting := none }
      match a.names with
      | some key => acknowledgeHeard key s1
      | none => s1
    else s

end Sys2Proof.Machine
end

