-- ==== Sys2Proof/Machine/Inputs.lean ====
section
/-! DEFINITION. The input monitor (chapter 1): the channel reports (R19), the modes CONTACT (R5 to R8), FLOW (R12, R13) and COUNT (R14,
R15), pulses and windows (R9 to R11), wiring faults (R16 to R18) and bypass (R20, R21). -/

namespace Sys2Proof.Machine

/-- A channel hands a report: none while it is bypassed, and otherwise its last queued kind is set whatever becomes of the
report (R19, R20). -/
def handChannel (c : ChannelNo) (q : Qualifier) (value : Option Nat) (s : State) : State :=
  if (s.chan c).bypass then s
  else
    let set := s.chanSettings c
    handReport ⟨set.cls, q, set.event, set.group, .channel c, value, s.clock⟩
      (s.setChan c fun ch => { ch with lastKind := q.kind })

/-! ### CONTACT (R5 to R8) -/

/-- A CONTACT channel enters ALARM from NORMAL or CONFIRMING (R5). -/
def contactAlarm (c : ChannelNo) (s : State) : State :=
  handChannel c .alarm none
    (s.setChan c fun ch => { ch with state := .alarm, confirmTimer := .stopped, alarmEntry := some s.clock })

/-- A CONTACT channel in NORMAL takes a change to ACTIVE (R5). -/
def contactActive (c : ChannelNo) (s : State) : State :=
  let set := s.chanSettings c
  if set.confirm = 0 then contactAlarm c s
  else s.setChan c fun ch => { ch with state := .confirming, confirmTimer := .running (s.now + 1000 * set.confirm) }

/-- A CONFIRMING channel abandons its confirmation (R6). -/
def abandonConfirm (c : ChannelNo) (s : State) : State :=
  s.setChan c fun ch =>
    { ch with state := .normal, confirmTimer := .stopped, transients := saturatingSucc 255 ch.transients }

/-- The alarm duration: the unit clock less the alarm entry time, limited to 9999 (R7). -/
def alarmDuration (clock : Nat) (ch : Channel) : Nat := min (clock - ch.alarmEntry.getD 0) 9999

/-- A CONTACT channel goes to NORMAL with the restore report, if restore reporting is on (R7). -/
def contactRestore (c : ChannelNo) (s : State) : State :=
  let s1 := s.setChan c fun ch => { ch with state := .normal, restoreTimer := .stopped }
  if (s.chanSettings c).restoreReporting then
    handChannel c .restoreValue (some (alarmDuration s.clock (s.chan c))) s1
  else s1

/-- A CONTACT channel in ALARM takes a change to NORMAL (R7). -/
def contactNormal (c : ChannelNo) (s : State) : State :=
  let set := s.chanSettings c
  if set.restore = 0 then contactRestore c s
  else s.setChan c fun ch => { ch with state := .restoring, restoreTimer := .running (s.now + 1000 * set.restore) }

/-- A change of qualified band on a CONTACT channel, the new band already in its record (section 1.3). -/
def contactChange (c : ChannelNo) (s : State) : State :=
  let ch := s.chan c
  match ch.state, ch.qualified with
  | .normal, .active => contactActive c s
  | .confirming, .normal => abandonConfirm c s
  | .confirming, .active => if ch.confirmTimer = .held then contactAlarm c s else s
  | .alarm, .normal => contactNormal c s
  | .restoring, .active => s.setChan c fun ch => { ch with state := .alarm, restoreTimer := .stopped }
  | .restoring, .normal => if ch.restoreTimer = .held then contactRestore c s else s
  | _, _ => s

/-! ### Pulses (R9, R10, R14) -/

/-- Whether a FLOW channel's gate is open; a FLOW channel with no gate, and a COUNT channel, count every pulse (R9, R10). -/
def gateOpen (c : ChannelNo) (s : State) : Bool :=
  let set := s.chanSettings c
  if set.mode = .flow then
    match set.gate with
    | none => true
    | some g => (s.chan g).qualified = .active && (s.chan g).state ≠ .fault
  else true

/-- A COUNT channel in NORMAL whose pulse count has come to set-point-high alarms, and its window begins anew (R14). -/
def countAlarm (c : ChannelNo) (s : State) : State :=
  let set := s.chanSettings c
  handChannel c .alarmValue (some set.setHigh)
    (s.setChan c fun ch =>
      { ch with state := .alarm, pulses := 0, windowEnd := some (s.now + 1000 * set.window) })

/-- A pulse on a FLOW or COUNT channel (R9, R14). -/
def pulse (c : ChannelNo) (s : State) : State :=
  if gateOpen c s then
    let s1 := s.setChan c fun ch => { ch with pulses := saturatingSucc 65535 ch.pulses }
    let set := s.chanSettings c
    if set.mode = .count ∧ (s1.chan c).state = .normal ∧ (s1.chan c).pulses = set.setHigh then countAlarm c s1 else s1
  else s

/-- A change of qualified band on a channel from an old band, the new one already in its record (R2). -/
def bandChange (c : ChannelNo) (old : Band) (s : State) : State :=
  match (s.chanSettings c).mode with
  | .disabled => s
  | .contact => contactChange c s
  | .flow | .count =>
    let ch := s.chan c
    if old = .normal ∧ ch.qualified = .active ∧ (ch.state = .normal ∨ ch.state = .alarm) then pulse c s else s

/-! ### Windows (R11 to R13, R15) -/

/-- The rate of a window per minute (section 1.5). -/
def windowRate (hold window : Nat) : Nat := min (hold * 60 / window) 9999

/-- The completed window of a FLOW channel in NORMAL is judged (R12). -/
def flowNormal (c : ChannelNo) (rate : Nat) (s : State) : State :=
  let set := s.chanSettings c
  if set.setHigh ≤ rate then
    if (s.chan c).consecutive + 1 < set.windows then
      s.setChan c fun ch => { ch with consecutive := ch.consecutive + 1 }
    else
      handChannel c .alarmValue (some rate)
        (s.setChan c fun ch => { ch with state := .alarm, consecutive := 0, peak := rate })
  else s.setChan c fun ch => { ch with consecutive := 0 }

/-- The completed window of a FLOW channel in ALARM is judged (R13). -/
def flowAlarm (c : ChannelNo) (rate : Nat) (s : State) : State :=
  let set := s.chanSettings c
  let s1 := s.setChan c fun ch => { ch with peak := max ch.peak rate }
  if rate < set.setLow then
    if (s.chan c).consecutive + 1 < set.windows then
      s1.setChan c fun ch => { ch with consecutive := ch.consecutive + 1 }
    else
      let s2 := s1.setChan c fun ch => { ch with state := .normal, consecutive := 0 }
      if set.restoreReporting then handChannel c .restoreValue (some (s2.chan c).peak) s2 else s2
  else s1.setChan c fun ch => { ch with consecutive := 0 }

/-- The completed window of a COUNT channel in ALARM is judged (R15). -/
def countWindow (c : ChannelNo) (hold : Nat) (s : State) : State :=
  let set := s.chanSettings c
  if hold < set.setLow then
    let s1 := s.setChan c fun ch => { ch with state := .normal }
    if set.restoreReporting then handChannel c .restoreValue (some hold) s1 else s1
  else s

/-- A window ends at an instant: its hold value is taken, the count cleared, the next window started, and the completed
window judged (R11). -/
def endWindow (c : ChannelNo) (ended : Nat) (s : State) : State :=
  let set := s.chanSettings c
  let hold := (s.chan c).pulses
  let s1 := s.setChan c fun ch =>
    { ch with hold := hold, pulses := 0, windowEnd := some (ended + 1000 * set.window) }
  match set.mode, (s.chan c).state with
  | .flow, .normal => flowNormal c (windowRate hold set.window) s1
  | .flow, .alarm => flowAlarm c (windowRate hold set.window) s1
  | .count, .alarm => countWindow c hold s1
  | _, _ => s1

/-! ### Wiring faults (R16 to R18) -/

/-- The trouble condition of a channel's fault band. -/
def wiringCondition (c : ChannelNo) (b : Band) : Condition :=
  if b = .short then .channelShort c else .channelOpen c

/-- A fault entry: the channel's record (R16). -/
def Channel.enterFault (ch : Channel) : Channel :=
  { ch with
    state := .fault
    alarmMemory := ch.state = .alarm || ch.state = .restoring
    faultBand := some ch.sampled
    confirmTimer := .stopped, restoreTimer := .stopped
    windowEnd := none, pulses := 0, consecutive := 0 }

/-- A fault entry (R16). -/
def faultEntry (c : ChannelNo) (s : State) : State :=
  tellTrouble (wiringCondition c (s.chan c).sampled) true (s.setChan c Channel.enterFault)

/-- A fault band change: the old band's condition inactive, the new band's active (R17). DEDUCED (log entry 12): R138 leaves the order
of the two notices open; the end of the old condition is told first, and its report takes the lower sequence number. -/
def faultBandChange (c : ChannelNo) (old : Band) (s : State) : State :=
  let new := (s.chan c).sampled
  tellTrouble (wiringCondition c new) true
    (tellTrouble (wiringCondition c old) false (s.setChan c fun ch => { ch with faultBand := some new }))

/-- The state a channel takes on leaving FAULT (R18). -/
def exitState (c : ChannelNo) (memory : Bool) (s : State) : State :=
  let set := s.chanSettings c
  let to_ (st : ChannelState) := s.setChan c fun ch => { ch with state := st }
  match set.mode with
  | .disabled => s
  | .contact =>
    match memory, (s.chan c).qualified with
    | true, .active => to_ .alarm
    | true, _ => contactNormal c (to_ .alarm)
    | false, .active => contactActive c (to_ .normal)
    | false, _ => to_ .normal
  | .flow | .count =>
    s.setChan c fun ch =>
      { ch with
        state := if memory then .alarm else .normal
        windowEnd := some (s.now + 1000 * set.window) }

/-- A fault exit: the trouble unit is told, the qualified band set to the exit band, and the state taken (R18). DEDUCED (log entry 27):
R18 does not say what the alarm memory, meaningful in FAULT alone, holds afterwards; it is set to no. -/
def faultExit (c : ChannelNo) (old : Band) (s : State) : State :=
  let memory := (s.chan c).alarmMemory
  let s1 := s.setChan c fun ch => { ch with faultBand := none, qualified := ch.sampled, alarmMemory := false }
  exitState c memory (tellTrouble (wiringCondition c old) false s1)

/-! ### Bypass (R20, R21) -/

/-- The report of event 330 for a channel (R20, R21). -/
def bypassReport (c : ChannelNo) (q : Qualifier) (clock : Nat) : Matter :=
  ⟨.trouble, q, 330, channelNumber c, .channel c, none, clock⟩

/-- A BYPASS request for a channel that is not DISABLED (R20). -/
def bypassChannel (c : ChannelNo) (s : State) : State :=
  if (s.chan c).bypass then s
  else handReport (bypassReport c .alarm s.clock) (s.setChan c fun ch => { ch with bypass := true })

/-- The catch-up report of an UNBYPASS, when the channel's state disagrees with its last queued kind (R21). -/
def catchUp (c : ChannelNo) (s : State) : State :=
  match (s.chan c).state, (s.chan c).lastKind with
  | .alarm, .restore => handChannel c .alarm none s
  | .normal, .alarm => if (s.chanSettings c).restoreReporting then handChannel c .restore none s else s
  | _, _ => s

/-- An UNBYPASS request for a channel that is not DISABLED (R21). -/
def unbypassChannel (c : ChannelNo) (s : State) : State :=
  if (s.chan c).bypass then
    catchUp c (handReport (bypassReport c .restore s.clock) (s.setChan c fun ch => { ch with bypass := false }))
  else s

end Sys2Proof.Machine
end

