-- ==== Sys2Proof/Machine/Loader.lean ====
section
/-! DEFINITION. The configuration loader (chapter 8): reading a field of the image (R170), the checks (R152), the clamping (R154 to
R157), and what a start does at its beginning and at the end of the image read (R49, R150, R159). -/

namespace Sys2Proof.Machine

/-! ### The bytes of the image (R170) -/

/-- The byte at an offset. -/
def byteAt (image : List Byte) (i : Nat) : Nat := (image.getD i 0).toNat

/-- A number of two bytes, high byte first. -/
def wordAt (image : List Byte) (i : Nat) : Nat := 256 * byteAt image i + byteAt image (i + 1)

/-- The lines named by the low four bits of a byte. -/
def lineSetAt (image : List Byte) (i : Nat) : BitVec 4 := BitVec.ofNat 4 (byteAt image i)

/-- The magic is correct when byte 0 holds 165 and byte 1 holds 72 (R170). -/
def magicRight (image : List Byte) : Bool := byteAt image 0 = 165 && byteAt image 1 = 72

/-- The sum of bytes 0 to 253 modulo 65536 (R152). -/
def imageSum (image : List Byte) : Nat := ((image.take 254).foldl (fun n b => n + b.toNat) 0) % 65536

/-- The checksum in bytes 254 and 255 agrees (R152). -/
def checksumRight (image : List Byte) : Bool := imageSum image = wordAt image 254

/-! ### Clamping (R154 to R156) -/

/-- A value taken from the image, and how many changes brought it into range. -/
structure Clamped (α : Type) where
  value : α
  changes : Nat
  deriving DecidableEq, Repr

/-- A number brought to the nearest end of its range. -/
def clampNumber (lo hi n : Nat) : Clamped Nat :=
  if n < lo then ⟨lo, 1⟩ else if hi < n then ⟨hi, 1⟩ else ⟨n, 0⟩

/-- A group above 99 becomes 00. -/
def clampGroup (n : Nat) : Clamped Nat := if 99 < n then ⟨0, 1⟩ else ⟨n, 0⟩

/-- An on or off setting coded otherwise becomes on. -/
def clampSwitch (n : Nat) : Clamped Bool :=
  if n = 0 then ⟨false, 0⟩ else if n = 1 then ⟨true, 0⟩ else ⟨true, 1⟩

/-- A class coded beyond BOILER becomes BOILER (R155). -/
def clampChannelClass : Nat → Clamped ReportClass
  | 0 => ⟨.fire, 0⟩
  | 1 => ⟨.sprinkler, 0⟩
  | 2 => ⟨.boiler, 0⟩
  | _ => ⟨.boiler, 1⟩

/-- A mode coded outside the four becomes DISABLED (R155). -/
def clampMode : Nat → Clamped Mode
  | 0 => ⟨.disabled, 0⟩
  | 1 => ⟨.contact, 0⟩
  | 2 => ⟨.flow, 0⟩
  | 3 => ⟨.count, 0⟩
  | _ => ⟨.disabled, 1⟩

/-- The bytes of a destination read symbol by symbol: the end code ends it, and an invalid symbol ends it and counts (R156). -/
def clampDest : List Nat → Clamped (List DialSym)
  | [] => ⟨[], 0⟩
  | b :: rest =>
    if b = 255 then ⟨[], 0⟩
    else if b = 10 then
      let r := clampDest rest
      ⟨.pause :: r.value, r.changes⟩
    else if b < 10 then
      let r := clampDest rest
      ⟨.digit (Fin.ofNat 10 b) :: r.value, r.changes⟩
    else ⟨[], 1⟩

/-- The twenty bytes of a destination from an offset. -/
def destAt (image : List Byte) (i : Nat) : Clamped (List DialSym) :=
  clampDest ((List.range 20).map fun k => byteAt image (i + k))

/-- A route entry coded otherwise, or naming a destination that is none, becomes none (R156). -/
def clampRoute (dest1 dest2 dest3 : List DialSym) : Nat → Clamped (Option DestId)
  | 0 => ⟨none, 0⟩
  | 1 => if dest1 = [] then ⟨none, 1⟩ else ⟨some .d1, 0⟩
  | 2 => if dest2 = [] then ⟨none, 1⟩ else ⟨some .d2, 0⟩
  | 3 => if dest3 = [] then ⟨none, 1⟩ else ⟨some .d3, 0⟩
  | _ => ⟨none, 1⟩

/-- The five entries read by a function of the class's place, with their changes added up. -/
def clampClasses {α : Type} (f : Nat → Clamped α) : Clamped (PerClass α) :=
  ⟨⟨(f 0).value, (f 1).value, (f 2).value, (f 3).value, (f 4).value⟩,
    (f 0).changes + (f 1).changes + (f 2).changes + (f 3).changes + (f 4).changes⟩

/-- The route of a class, first entry then second (R170). -/
def routeAt (image : List Byte) (dest1 dest2 dest3 : List DialSym) (k : Nat) : Clamped Route :=
  let a := clampRoute dest1 dest2 dest3 (byteAt image (72 + 2 * k))
  let b := clampRoute dest1 dest2 dest3 (byteAt image (73 + 2 * k))
  ⟨⟨a.value, b.value⟩, a.changes + b.changes⟩

/-- The gate byte of a channel block (R170). -/
def gateByte (image : List Byte) (c : ChannelNo) : Nat := byteAt image (117 + 19 * c.val)

/-- The first pass over a channel block: its own fields, its gate still none (R155). -/
def channelBlock (image : List Byte) (c : ChannelNo) : Clamped ChannelSettings :=
  let o := 100 + 19 * c.val
  let cls := clampChannelClass (byteAt image o)
  let event := clampNumber 100 299 (wordAt image (o + 1))
  let group := clampGroup (byteAt image (o + 3))
  let mode := clampMode (byteAt image (o + 4))
  let debounce := clampNumber 2 200 (byteAt image (o + 5))
  let confirm := clampNumber 0 300 (wordAt image (o + 6))
  let restore := clampNumber 0 300 (wordAt image (o + 8))
  let window := clampNumber 1 3600 (wordAt image (o + 10))
  let windows := clampNumber 1 10 (byteAt image (o + 12))
  let high := clampNumber 1 9999 (wordAt image (o + 13))
  let low := clampNumber 0 9999 (wordAt image (o + 15))
  let low2 := clampNumber 0 high.value low.value
  let rep := clampSwitch (byteAt image (o + 18))
  ⟨{ cls := cls.value, event := event.value, group := group.value, mode := mode.value
     debounce := 10 * debounce.value, confirm := confirm.value, restore := restore.value
     window := window.value, windows := windows.value, setHigh := high.value, setLow := low2.value
     gate := none, restoreReporting := rep.value },
    cls.changes + event.changes + group.changes + mode.changes + debounce.changes + confirm.changes + restore.changes
      + window.changes + windows.changes + high.changes + low.changes + low2.changes + rep.changes⟩

/-- The second pass: a gate naming no channel, the channel itself, or a channel not in CONTACT becomes none (R155). -/
def clampGate (modes : ChannelNo → Mode) (c : ChannelNo) (b : Nat) : Clamped (Option ChannelNo) :=
  if b = 0 then ⟨none, 0⟩
  else if h : b - 1 < 8 then
    let g : ChannelNo := ⟨b - 1, h⟩
    if g ≠ c ∧ modes g = .contact then ⟨some g, 0⟩ else ⟨none, 1⟩
  else ⟨none, 1⟩

/-- A channel block after both passes (R155). -/
def channelAt (image : List Byte) (c : ChannelNo) : Clamped ChannelSettings :=
  let own := channelBlock image c
  let gate := clampGate (fun g => (channelBlock image g).value.mode) c (gateByte image c)
  ⟨{ own.value with gate := gate.value }, own.changes + gate.changes⟩

/-- The working settings of an image with the right magic, and the clamp count (R154 to R157, R170). -/
def settingsOf (image : List Byte) : Clamped Settings :=
  let station := clampNumber 1 31 (byteAt image 3)
  let account := clampNumber 0 9999 (wordAt image 4)
  let d1 := destAt image 12
  let d2 := destAt image 32
  let d3 := destAt image 52
  let routes := clampClasses (routeAt image d1.value d2.value d3.value)
  let maxima := clampClasses fun k => clampNumber 1 15 (byteAt image (82 + k))
  let rest := clampNumber 1 60 (byteAt image 87)
  let coverage := clampNumber 30 600 (wordAt image 88)
  let shared := (List.range 8).map fun k => clampGroup (byteAt image (90 + k))
  let hours := clampNumber 0 168 (byteAt image 98)
  let reporting := clampSwitch (byteAt image 99)
  let channels := Vector.ofFn (channelAt image)
  ⟨{ station := station.value, account := account.value
     fitted := lineSetAt image 6
     masks := ⟨lineSetAt image 7, lineSetAt image 8, lineSetAt image 9, lineSetAt image 10, lineSetAt image 11⟩
     dest1 := d1.value, dest2 := d2.value, dest3 := d3.value
     routes := routes.value, maxima := maxima.value
     restMinutes := rest.value, coverage := coverage.value
     shared := shared.map (·.value), testHours := hours.value, troubleReporting := reporting.value
     channels := channels.map (·.value) },
    min 255 (station.changes + account.changes + d1.changes + d2.changes + d3.changes + routes.changes + maxima.changes
      + rest.changes + coverage.changes + (shared.map (·.changes)).sum + hours.changes + reporting.changes
      + (channels.toList.map (·.changes)).sum)⟩

/-- What the loader makes of the bytes read, none standing for a memory that counts as absent: the working settings, what
IDENT shows, and whether the part falls back to local-only operation (R152, R153, R157). -/
def loadImage (bytes : Option (List Byte)) : Settings × Loader × Bool :=
  match bytes with
  | none => (defaultSettings, ⟨0, 0⟩, true)
  | some image =>
    if magicRight image then
      let r := settingsOf image
      let loader : Loader := ⟨byteAt image 2, r.changes⟩
      if checksumRight image then (r.value, loader, false) else ({ r.value with fitted := 0 }, loader, true)
    else (defaultSettings, ⟨0, 0⟩, true)

/-! ### The beginning of a start (R158, R159) -/

/-- The image read begins if nothing keeps the part in start: the supply is up and the start pin not held low. The clamp count
is 0 from then (R151, R157, R158). -/
def tryRead (s : State) : State :=
  if s.supply = .up ∧ s.pinLow = false then
    { s with phase := .reading s.now, loader := { s.loader with clampCount := 0 } }
  else s

/-- A start begins: every relay opens, the clock is held, the buffer is cleared, and the work of every block is abandoned
without a result, a report or a count (R49, R71, R122, R137, R150, R159). DESIGN CHOICE (log entry 8): R24 says what a channel
shows after a start and not what it shows in one; until the image read ends every channel is DISABLED, whatever mode the settings
that still stand give it. -/
def beginStart (cause : StartCause) (s : State) : State :=
  { s with
    phase := .starting
    startCause := cause
    channels := Vector.replicate 8 (freshChannel defaultChannelSettings)
    queue := freshQueue
    lines := Vector.replicate 4 (freshLine false)
    tone := freshTone
    access := freshAccess
    call := freshCall
    listener := freshListener
    trouble := freshTrouble
    port := freshPort }

/-! ### The end of the image read -/

/-- The value the START report carries for a cause (R26, R158). -/
def StartCause.code : StartCause → Nat
  | .powerUp => 1
  | .startPin => 2
  | .restart => 3

/-- The START report (R49). -/
def startReport (cause : StartCause) : Matter := ⟨.trouble, .status, 310, 0, .unit, some cause.code, 0⟩

/-- Every block's record at the end of the image read, under the working settings (R24, R49, R53, R71, R72, R122, R137, R150,
R159). The part's clock begins at 0. -/
def afterRead (set : Settings) (loader : Loader) (s : State) : State :=
  { s with
    now := 0
    phase := .running
    settings := set
    loader := loader
    channels := set.channels.map freshChannel
    queue := freshQueue
    lines := Vector.ofFn fun l : LineNo => freshLine (set.fitted.getLsbD l.val)
    tone := freshTone
    access := freshAccess
    call := freshCall
    listener := freshListener
    trouble := { freshTrouble with testExpiry := if set.testHours = 0 then none else some (3600 * set.testHours) }
    port := freshPort }

/-- The end of the image read: the working settings are handed over, the START report is the queue's first report, and a fall
back to local-only operation makes CONFIG_DEFAULTED active after it (R49, R150 to R153, R159). -/
def endRead (bytes : Option (List Byte)) (s : State) : State :=
  let r := loadImage bytes
  let s1 := handReport (startReport s.startCause) (afterRead r.1 r.2.1 s)
  if r.2.2 then tellTrouble .configDefaulted true s1 else s1

end Sys2Proof.Machine
end

