-- ==== Sys2Proof/Machine/PortText.lean ====
section
/-! DEFINITION. The text of the maintenance port: the names the manual prints, the fields of a data line and the data lines of each
read command (R164, R171), and how a command line is sorted into words (R162). -/

namespace Sys2Proof.Machine

/-! ### Fields (R171) -/

/-- A number in decimal without leading zeros. -/
def decimal (n : Nat) : Text := Nat.toDigits 10 n

/-- A number with leading zeros to a width. -/
def padded (width n : Nat) : Text := List.replicate (width - (decimal n).length) '0' ++ decimal n

/-- The field of something absent. -/
def hyphen : Text := ['-']

/-- A field that may be absent. -/
def optional {α : Type} (f : α → Text) : Option α → Text
  | none => hyphen
  | some a => f a

/-- A mark Y or N. -/
def yesNo (b : Bool) : Text := if b then ['Y'] else ['N']

/-- Fields separated by single spaces. -/
def dataLine (fields : List Text) : Text := [' '].intercalate fields

def ReportClass.text : ReportClass → Text
  | .fire => "FIRE".toList
  | .sprinkler => "SPRINKLER".toList
  | .boiler => "BOILER".toList
  | .trouble => "TROUBLE".toList
  | .test => "TEST".toList

def Band.text : Band → Text
  | .short => "SHORT".toList
  | .active => "ACTIVE".toList
  | .normal => "NORMAL".toList
  | .opened => "OPEN".toList

def ChannelState.text : ChannelState → Text
  | .disabled => "DISABLED".toList
  | .normal => "NORMAL".toList
  | .confirming => "CONFIRMING".toList
  | .alarm => "ALARM".toList
  | .restoring => "RESTORING".toList
  | .fault => "FAULT".toList

def Mode.text : Mode → Text
  | .disabled => "DISABLED".toList
  | .contact => "CONTACT".toList
  | .flow => "FLOW".toList
  | .count => "COUNT".toList

def DestId.text : DestId → Text
  | .d1 => "D1".toList
  | .d2 => "D2".toList
  | .d3 => "D3".toList

def ReportState.text : ReportState → Text
  | .queued => "QUEUED".toList
  | .inCall => "IN_CALL".toList
  | .resting => "RESTING".toList

def Fate.text : Fate → Text
  | .delivered _ _ => "DELIVERED".toList
  | .covered _ => "COVERED".toList
  | .dropped => "DROPPED".toList
  | .notRouted => "NOT_ROUTED".toList

def OnhookBand.text : OnhookBand → Text
  | .dead => "DEAD".toList
  | .occupied => "OCCUPIED".toList
  | .idle => "IDLE".toList

def CurrentBand.text : CurrentBand → Text
  | .none => "NONE".toList
  | .shared => "SHARED".toList
  | .sole => "SOLE".toList

def LineState.text : LineState → Text
  | .unfitted => "UNFITTED".toList
  | .settling => "SETTLING".toList
  | .idle => "IDLE".toList
  | .occupied => "OCCUPIED".toList
  | .suspect => "SUSPECT".toList
  | .faulted => "FAULTED".toList
  | .held => "HELD".toList
  | .break => "BREAK".toList
  | .guard => "GUARD".toList

def FaultCause.text : FaultCause → Text
  | .dead => "DEAD".toList
  | .noLoop => "NO_LOOP".toList

def AccessState.text : AccessState → Text
  | .idle => "AC_IDLE".toList
  | .wait _ _ _ => "AC_WAIT".toList
  | .holdoff _ _ _ _ _ => "AC_HOLDOFF".toList
  | .check _ _ => "AC_CHECK".toList
  | .preempt _ _ _ => "AC_PREEMPT".toList
  | .granted _ _ _ _ => "AC_GRANTED".toList

def CallState.text : CallState → Text
  | .idle => "CE_IDLE".toList
  | .dialtoneWait => "DIALTONE_WAIT".toList
  | .dialling => "DIALLING".toList
  | .awaitHandshake => "AWAIT_HANDSHAKE".toList
  | .sendingBlock => "SENDING_BLOCK".toList
  | .awaitAck => "AWAIT_ACK".toList
  | .paused => "PAUSED".toList
  | .closing => "CLOSING".toList

/-- The name of a condition with its channel or line number (R171). -/
def Condition.text : Condition → Text
  | .channelOpen c => "OPEN-".toList ++ decimal (channelNumber c)
  | .channelShort c => "SHORT-".toList ++ decimal (channelNumber c)
  | .lineDead l => "LINE_DEAD-".toList ++ decimal (lineNumber l)
  | .lineNoLoop l => "LINE_NO_LOOP-".toList ++ decimal (lineNumber l)
  | .commFail => "COMM_FAIL".toList
  | .queueOverflow => "QUEUE_OVERFLOW".toList
  | .stationClash => "STATION_CLASH".toList
  | .configDefaulted => "CONFIG_DEFAULTED".toList

/-! ### Data lines (R23, R69, R149, R164, R171) -/

/-- The line of IDENT. -/
def identLine (s : State) : Text :=
  dataLine ["ID".toList, "Asvanor".toList, "Vothel-DL-48".toList, "B".toList, padded 10 s.unique.toNat,
    decimal s.loader.imageVersion, decimal s.loader.clampCount, decimal s.settings.station, padded 4 s.settings.account]

/-- The line of STATUS. -/
def statusLine (s : State) : Text :=
  dataLine ["ST".toList, AccessState.text s.access.state, CallState.text s.call.state, decimal s.queue.reports.length,
    decimal s.queue.overflow, decimal s.trouble.missedTests, decimal s.clock]

/-- The fields of a report or history entry from its sequence number to its occurred time. -/
def matterFields (seq : Nat) (m : Matter) : List Text :=
  [decimal seq, ReportClass.text m.cls, decimal m.qualifier.code, decimal m.event, padded 2 m.group,
    optional decimal m.value, decimal m.occurred]

/-- The line of a report in QUEUE. -/
def queueLine (s : State) (r : Report) : Text :=
  dataLine (["Q".toList] ++ matterFields r.seq r.matter
    ++ [ReportState.text r.state, decimal r.eligibleAt, optional decimal r.restEnd, decimal r.attempts,
      decimal r.contention, yesNo r.reassert, optional DestId.text (s.settings.currentDest r)])

/-- The line, destination and peer station of a history entry, each when its outcome carries it. -/
def fateFields : Fate → List Text
  | .delivered l d => [decimal (lineNumber l), DestId.text d, hyphen]
  | .covered peer => [hyphen, hyphen, decimal peer]
  | .dropped | .notRouted => [hyphen, hyphen, hyphen]

/-- The line of an entry in HIST. -/
def histLine (e : HistoryEntry) : Text :=
  dataLine (["H".toList] ++ matterFields e.seq e.matter ++ [Fate.text e.fate, decimal e.finish] ++ fateFields e.fate)

/-- The line of an exchange line in LINES; an UNFITTED one shows hyphens but for its number, state and counts. -/
def lineLine (s : State) (l : LineNo) : Text :=
  let ln := s.line l
  let middle : List Text :=
    if ln.state = .unfitted then List.replicate 6 hyphen
    else
      [decimal (secondsOf ln.enteredAt), optional FaultCause.text ln.faultCause,
        if ln.state = .held then optional CurrentBand.text ln.qualifiedCurrent else optional OnhookBand.text ln.qualifiedOnhook,
        optional ReportClass.text ln.occupant, yesNo ln.noYield, yesNo ln.noLoop]
  dataLine (["L".toList, decimal (lineNumber l), LineState.text ln.state] ++ middle
    ++ [decimal ln.seizes, decimal ln.collisions, decimal ln.garbled])

/-- The line of CHAN. DEDUCED (log entry 29): the debounce is written in milliseconds, the unit in which R153 and R155 give it; R171
names no unit for the field. -/
def chanLine (s : State) (c : ChannelNo) : Text :=
  let ch := s.chan c
  let set := s.chanSettings c
  dataLine ["C".toList, decimal (channelNumber c), Mode.text set.mode, ChannelState.text ch.state, Band.text ch.sampled,
    decimal ch.transients, decimal ch.pulses, decimal ch.hold, decimal ch.peak, yesNo ch.bypass,
    ReportClass.text set.cls, decimal set.event, padded 2 set.group, decimal set.debounce, decimal set.confirm,
    decimal set.restore, decimal set.window, decimal set.windows, decimal set.setHigh, decimal set.setLow,
    optional (fun g => decimal (channelNumber g)) set.gate, yesNo set.restoreReporting]

/-- The line of a condition in TROUBLE. -/
def troubleLine (s : State) (c : Condition) : Text :=
  let r := s.cond c
  dataLine ["T".toList, Condition.text c, yesNo r.active, yesNo r.unacknowledged, optional decimal r.since,
    decimal r.occurrences, optional (fun p : PendingReport => decimal p.matter.qualifier.code) r.pending]

/-- The final line OK. -/
def okLine : Text := "OK".toList

/-- The error codes (R163). -/
inductive ErrorCode where
  | unknown | argument | noCall | pending | overlong
  deriving DecidableEq, Repr

/-- The final line of an error. -/
def errLine : ErrorCode → Text
  | .unknown => "ERR UNKNOWN".toList
  | .argument => "ERR ARGUMENT".toList
  | .noCall => "ERR NOCALL".toList
  | .pending => "ERR PENDING".toList
  | .overlong => "ERR OVERLONG".toList

/-! ### Sorting a line into words (R162) -/

/-- The words of a line, separated by spaces; the first argument gathers the word in hand, last letter first. -/
def wordsFrom : Text → Text → List Text
  | [], [] => []
  | [], x :: rest =>
    if x = ' ' then wordsFrom [] rest else wordsFrom [x] rest
  | w, [] => [w.reverse]
  | w, x :: rest => if x = ' ' then w.reverse :: wordsFrom [] rest else wordsFrom (x :: w) rest

/-- A letter read without regard to case. -/
def upper (x : Char) : Char := x.toUpper

/-- A word that is a decimal number. -/
def number? (w : Text) : Option Nat :=
  if w ≠ [] ∧ w.all (fun x => '0' ≤ x ∧ x ≤ '9') then some (w.foldl (fun n x => 10 * n + (x.toNat - 48)) 0) else none

/-- The thirteen commands, with the number each of four carries (section 9.3). -/
inductive PortCommand where
  | ident | status | queue | hist (n : Nat) | lines | chan (n : Nat) | trouble
  | ack | bypass (n : Nat) | unbypass (n : Nat) | test | abort | restart
  deriving DecidableEq, Repr

/-- What a command line comes to: a command, or the code of its error. -/
inductive Sorted where
  | command (c : PortCommand)
  | error (e : ErrorCode)
  deriving DecidableEq, Repr

/-- A command without arguments. -/
def plainCommand (c : PortCommand) (args : List Text) : Sorted :=
  if args = [] then .command c else .error .argument

/-- A command with one number as its argument. -/
def numberCommand (f : Nat → PortCommand) (args : List Text) : Sorted :=
  match args with
  | [w] =>
    match number? w with
    | some n => .command (f n)
    | none => .error .argument
  | _ => .error .argument

/-- The words of a line sorted: the first is a command name, the others must fit the command (R162). A number out of the
command's range is found by the command itself. -/
def sortWords (name : Text) (args : List Text) : Sorted :=
  if name = "IDENT".toList then plainCommand .ident args
  else if name = "STATUS".toList then plainCommand .status args
  else if name = "QUEUE".toList then plainCommand .queue args
  else if name = "HIST".toList then numberCommand .hist args
  else if name = "LINES".toList then plainCommand .lines args
  else if name = "CHAN".toList then numberCommand .chan args
  else if name = "TROUBLE".toList then plainCommand .trouble args
  else if name = "ACK".toList then plainCommand .ack args
  else if name = "BYPASS".toList then numberCommand .bypass args
  else if name = "UNBYPASS".toList then numberCommand .unbypass args
  else if name = "TEST".toList then plainCommand .test args
  else if name = "ABORT".toList then plainCommand .abort args
  else if name = "RESTART".toList then plainCommand .restart args
  else .error .unknown

/-- The line a technician types for a command. -/
def PortCommand.text : PortCommand → Text
  | .ident => "IDENT".toList
  | .status => "STATUS".toList
  | .queue => "QUEUE".toList
  | .hist n => "HIST ".toList ++ decimal n
  | .lines => "LINES".toList
  | .chan n => "CHAN ".toList ++ decimal n
  | .trouble => "TROUBLE".toList
  | .ack => "ACK".toList
  | .bypass n => "BYPASS ".toList ++ decimal n
  | .unbypass n => "UNBYPASS ".toList ++ decimal n
  | .test => "TEST".toList
  | .abort => "ABORT".toList
  | .restart => "RESTART".toList

end Sys2Proof.Machine
end

