-- ==== Sys2Proof/Machine/Port.lean ====
section
/-! DEFINITION. The maintenance port (chapter 9): answering, the thirteen commands, the input line buffer, and taking completed
lines. -/

namespace Sys2Proof.Machine

/-- Changes the port. -/
def State.setPort (s : State) (f : Port → Port) : State := { s with port := f s.port }

/-! ### Answers (R161, R163) -/

/-- How many characters an answer has, each line followed by CR and LF. -/
def answerLength (ls : List Text) : Nat := ls.foldl (fun n t => n + t.length + 2) 0

/-- The instant an answer begun now has sent its last character, in 24ths of a millisecond: 10/9600 s, that is 25/24 ms, to a
character (R161; log entry 15). -/
def answerEnds (now : Nat) (ls : List Text) : Nat := 24 * now + 25 * answerLength ls

/-- An answer begins to be sent. -/
def sendAnswer (ls : List Text) (restart : Bool) (s : State) : State :=
  s.setPort fun p => { p with answer := some ⟨ls, answerEnds s.now ls, restart⟩ }

/-- Data lines followed by OK. -/
def answerOk (ls : List Text) (s : State) : State := sendAnswer (ls ++ [okLine]) false s

/-- An error line alone. -/
def answerError (e : ErrorCode) (s : State) : State := sendAnswer [errLine e] false s

/-! ### Commands that act (R165 to R168) -/

/-- The channel a command's number names. -/
def channelOf (n : Nat) : Option ChannelNo := if h : n - 1 < 8 then if n = 0 then none else some ⟨n - 1, h⟩ else none

/-- The trouble unit acknowledges every condition that is inactive (R145). -/
def acknowledgeTroubles (s : State) : State :=
  { s with trouble := { s.trouble with
      list := s.trouble.list.map fun r => if r.active then r else { r with unacknowledged := false } } }

/-- The access controller takes an abort request in an acquisition state (R95). -/
def abortAcquisition (s : State) : State :=
  let s1 :=
    match s.access.state with
    | .check _ l | .preempt _ l _ | .granted _ l _ _ => releaseAndIdle l s
    | .wait _ _ _ | .holdoff _ _ _ _ _ | .idle => s.setAccess .idle
  match s.queue.head with
  | some seq => decideHead (s1.setReport seq fun r => { r with eligibleAt := s.clock + 5 })
  | none => s1

/-- A maintenance TEST report (R166). -/
def testReport (event clock : Nat) : Matter := ⟨.test, .status, event, 0, .unit, none, clock⟩

/-- A command on a channel that names one and is not refused by the input monitor, or ERR ARGUMENT (R4, R165). -/
def onChannel (n : Nat) (act : ChannelNo → State → State) (s : State) : State :=
  match channelOf n with
  | none => answerError .argument s
  | some c => if (s.chan c).state = .disabled then answerError .argument s else answerOk [] (act c s)

/-- IDENT (R164). -/
def doIdent (s : State) : State := answerOk [identLine s] s

/-- STATUS (R164). -/
def doStatus (s : State) : State := answerOk [statusLine s] s

/-- QUEUE: one line per report in queue order (R164). -/
def doQueue (s : State) : State := answerOk (s.queue.reports.map (queueLine s)) s

/-- HIST: the newest entries in the order they were written (R48, R164). -/
def doHist (n : Nat) (s : State) : State :=
  if 1 ≤ n ∧ n ≤ 64 then answerOk ((s.queue.history.drop (s.queue.history.length - n)).map histLine) s
  else answerError .argument s

/-- LINES: one line for each exchange line (R164). -/
def doLines (s : State) : State := answerOk (allLines.map (lineLine s)) s

/-- CHAN (R164). -/
def doChan (n : Nat) (s : State) : State :=
  match channelOf n with
  | none => answerError .argument s
  | some c => answerOk [chanLine s c] s

/-- TROUBLE: one line per condition in list order (R164). -/
def doTrouble (s : State) : State := answerOk (allConditions.map (troubleLine s)) s

/-- ACK (R145, R165). -/
def doAck (s : State) : State := answerOk [] (acknowledgeTroubles s)

/-- BYPASS (R20, R165). -/
def doBypass (n : Nat) (s : State) : State := onChannel n bypassChannel s

/-- UNBYPASS (R21, R165). -/
def doUnbypass (n : Nat) (s : State) : State := onChannel n unbypassChannel s

/-- TEST (R166). -/
def doTest (s : State) : State :=
  if s.testPresent 321 then answerError .pending s else answerOk [] (handReport (testReport 321 s.clock) s)

/-- ABORT: a request to the access controller and to the call engine; OK if either acted, ERR NOCALL if neither did (R95, R111,
R167). -/
def doAbort (s : State) : State :=
  if s.access.state ≠ .idle ∨ s.inCall then
    let s1 := if s.access.state ≠ .idle then abortAcquisition s else s
    answerOk [] (if s.inCall then endCall .maintAbort s1 else s1)
  else answerError .noCall s

/-- RESTART: answered OK, with a start at the end of that line (R168). -/
def doRestart (s : State) : State := sendAnswer [okLine] true s

/-- A command that passes R162 acts (R163). -/
def doCommand (c : PortCommand) (s : State) : State :=
  match c with
  | .ident => doIdent s
  | .status => doStatus s
  | .queue => doQueue s
  | .hist n => doHist n s
  | .lines => doLines s
  | .chan n => doChan n s
  | .trouble => doTrouble s
  | .ack => doAck s
  | .bypass n => doBypass n s
  | .unbypass n => doUnbypass n s
  | .test => doTest s
  | .abort => doAbort s
  | .restart => doRestart s

/-! ### The input line buffer (R161, R162) -/

/-- How many characters the buffer holds, across the lines waiting and the line being received (R161). -/
def Port.held (p : Port) : Nat := p.waiting.foldl (fun n w => n + w.chars.length) p.receiving.chars.length

/-- A completed line is taken (R162): ERR OVERLONG for one marked so, nothing for a blank one, and otherwise the command or the
error its words come to. -/
def takeLine (w : PortLine) (s : State) : State :=
  if w.overlong then answerError .overlong s
  else
    match wordsFrom [] w.chars with
    | [] => s
    | name :: args =>
      match sortWords (name.map upper) args with
      | .command c => doCommand c s
      | .error e => answerError e s

/-- The waiting lines are taken in order until one is answered; those behind it go on waiting (R162). -/
def takeWaiting : List PortLine → State → State
  | [], s => s.setPort fun p => { p with waiting := [] }
  | w :: rest, s =>
    let s1 := takeLine w s
    if s1.port.answer.isSome then s1.setPort fun p => { p with waiting := rest } else takeWaiting rest s1

/-- A line has been completed: it is taken at once when no answer is being sent, and otherwise waits (R162). -/
def completeLine (w : PortLine) (s : State) : State :=
  if s.port.answer.isSome then s.setPort fun p => { p with waiting := p.waiting ++ [w] } else takeLine w s

/-- A printable character is appended if the buffer has room; if not it is discarded and the line marked overlong (R161). -/
def appendChar (x : Char) (p : Port) : Port :=
  if p.held < 64 then { p with receiving := { p.receiving with chars := p.receiving.chars ++ [x] } }
  else { p with receiving := { p.receiving with overlong := true } }

/-- A character taken at the end of its stop bit (R161). -/
def takeCharacter (code : Nat) (s : State) : State :=
  if 32 ≤ code ∧ code ≤ 126 then s.setPort (appendChar (Char.ofNat code))
  else if code = 13 then
    completeLine s.port.receiving (s.setPort fun p => { p with receiving := ⟨[], false⟩ })
  else if code = 8 then
    s.setPort fun p => { p with receiving := { p.receiving with chars := p.receiving.chars.dropLast } }
  else s

/-- The line a command makes, cut and marked overlong where the buffer has no room for it (R161). -/
def commandLine (c : PortCommand) (p : Port) : PortLine :=
  ⟨(PortCommand.text c).take (64 - p.held), decide (64 - p.held < (PortCommand.text c).length)⟩

/-- A command given to the port whole (log entry 14): nothing during a start; behind an answer being sent its line waits in the
buffer; and otherwise it acts at once, or is answered ERR OVERLONG where its line does not fit (R161, R162). -/
def giveCommand (c : PortCommand) (act : State → State) (s : State) : State :=
  if s.running then
    if s.port.answer.isSome then s.setPort fun p => { p with waiting := p.waiting ++ [commandLine c p] }
    else if (commandLine c s.port).overlong then answerError .overlong s
    else act s
  else s

/-- What an answer begun now would have ended earlier, had it begun at an instant before this millisecond. -/
def State.answerEarlier (s : State) (early : Nat) : State :=
  s.setPort fun p => { p with answer := p.answer.map fun a => { a with ends := a.ends - early } }

/-- The last character of an answer is sent: a start follows a RESTART, and otherwise the next waiting line is taken. Its answer
begins just where the one before ended, so that the part of a millisecond is not lost (R161, R162, R168). -/
def endAnswer (s : State) : State :=
  match s.port.answer with
  | none => s
  | some a =>
    if a.restart then tryRead (beginStart .restart s)
    else
      (takeWaiting s.port.waiting (s.setPort fun p => { p with answer := none })).answerEarlier (24 * s.now - a.ends)

end Sys2Proof.Machine
end

