-- ==== Sys2Proof/Machine/StartEvents.lean ====
section
/-! DEFINITION. The meanings of the start family: POWER_UP, POWER_STABLE, START_PIN_LOW, START_PIN_RELEASE, IMAGE_READ_END,
IMAGE_READ_TIMEOUT and SUPPLY_FAILURE (R151, R158, R159). An event that does not arise in the state it is given in has no effect
(log entry 7). -/

namespace Sys2Proof.Machine

/-- The answer of every meaning: the part goes on. -/
abbrev Result := Host.Outcome State Fault Refusal

/-- The effect of an event that is due, and no effect otherwise (log entry 7). -/
def whenDue (due : Bool) (effect : State → State) (s : State) : Result := .next (if due then effect s else s)

/-- POWER_UP: the supply rises to its working level and a start with cause 1 begins (R158). -/
def execPowerUp (s : State) : Result := .next { beginStart .powerUp s with supply := .rising s.now }

/-- The supply has held its working level for 100 ms (R158). -/
def powerStableDue (s : State) : Bool :=
  match s.supply with
  | .rising since => since + 100 ≤ s.now
  | _ => false

/-- POWER_STABLE: the supply is up, and the image read begins unless the pin holds the part in start (R151, R158). -/
def execPowerStable (s : State) : Result := whenDue (powerStableDue s) (fun s => tryRead { s with supply := .up }) s

/-- START_PIN_LOW: a start with cause 2 begins, or begins again; nothing without a supply (R158). -/
def execStartPinLow (s : State) : Result :=
  whenDue (s.supply ≠ .down) (fun s => { beginStart .startPin s with pinLow := true }) s

/-- START_PIN_RELEASE: the image read begins unless the supply holds the part in start (R151, R158). -/
def execStartPinRelease (s : State) : Result :=
  whenDue s.pinLow (fun s => if s.phase = .starting then tryRead { s with pinLow := false } else { s with pinLow := false }) s

/-- The last of 256 bytes may arrive up to 200 ms after the read began (R151). -/
def imageReadEndDue (image : List Byte) (s : State) : Bool :=
  match s.phase with
  | .reading since => image.length = 256 && s.now ≤ since + 200
  | _ => false

/-- IMAGE_READ_END: the 256 bytes are checked, clamped and handed over, and every block begins (R151 to R159). -/
def execImageReadEnd (image : List Byte) (s : State) : Result :=
  whenDue (imageReadEndDue image s) (endRead (some image)) s

/-- 200 ms have passed since the read began (R151). -/
def imageReadTimeoutDue (s : State) : Bool :=
  match s.phase with
  | .reading since => since + 200 ≤ s.now
  | _ => false

/-- IMAGE_READ_TIMEOUT: the memory counts as absent (R151 to R153). -/
def execImageReadTimeout (s : State) : Result := whenDue (imageReadTimeoutDue s) (endRead none) s

/-- SUPPLY_FAILURE: the supply falls, and the part stays in start until it has risen and held again (R158). -/
def execSupplyFailure (s : State) : Result := .next { beginStart .powerUp s with supply := .down }

end Sys2Proof.Machine
end

