-- ==== Sys2Proof/Machine/ChannelEvents.lean ====
section
/-! DEFINITION. The meanings of the input monitor's events: CHANNEL_SAMPLE, CHANNEL_BAND_QUALIFIED, CONFIRM_TIMER_EXPIRY,
RESTORE_TIMER_EXPIRY, WINDOW_END, WIRING_FAULT_ENTRY, WIRING_FAULT_BAND_CHANGE and WIRING_FAULT_EXIT (chapter 1). -/

namespace Sys2Proof.Machine

/-- A channel whose mode is not DISABLED is sampled from the end of the image read (R1). -/
def sampledChannel (c : ChannelNo) (s : State) : Bool := s.running && (s.chanSettings c).mode ≠ .disabled

/-- A sample sets the sampled band, and a change starts the debounce count and the wiring test's 1 s anew (R1 to R3). -/
def sampleChannel (c : ChannelNo) (b : Band) (s : State) : State :=
  if (s.chan c).sampled = b then s else s.setChan c fun ch => { ch with sampled := b, bandSince := s.now }

/-- CHANNEL_SAMPLE (R1). -/
def execChannelSample (c : ChannelNo) (resistance : Nat) (s : State) : Result :=
  whenDue (sampledChannel c s) (sampleChannel c (Band.ofResistance resistance)) s

/-- The sampled band has been held for the debounce time and is not yet the qualified band (R2). -/
def channelBandDue (c : ChannelNo) (s : State) : Bool :=
  sampledChannel c s && (s.chan c).sampled ≠ (s.chan c).qualified
    && (s.chan c).bandSince + (s.chanSettings c).debounce ≤ s.now

/-- The sampled band becomes the qualified band, and the mode's rules act on the change (R2). -/
def qualifyChannel (c : ChannelNo) (s : State) : State :=
  bandChange c (s.chan c).qualified (s.setChan c fun ch => { ch with qualified := ch.sampled })

/-- CHANNEL_BAND_QUALIFIED (R2). -/
def execChannelBandQualified (c : ChannelNo) (s : State) : Result := whenDue (channelBandDue c s) (qualifyChannel c) s

/-- Whether a running timer has reached its end. -/
def Timer.expired (t : Timer) (now : Nat) : Bool :=
  match t with
  | .running ends => ends ≤ now
  | _ => false

/-- A CONFIRMING channel's confirm timer expires (R6). -/
def confirmDue (c : ChannelNo) (s : State) : Bool :=
  sampledChannel c s && (s.chan c).state = .confirming && (s.chan c).confirmTimer.expired s.now

/-- The channel alarms if its qualified band is ACTIVE, and otherwise holds the expiry (R6, R8). -/
def expireConfirm (c : ChannelNo) (s : State) : State :=
  if (s.chan c).qualified = .active then contactAlarm c s else s.setChan c fun ch => { ch with confirmTimer := .held }

/-- CONFIRM_TIMER_EXPIRY (R6). -/
def execConfirmTimerExpiry (c : ChannelNo) (s : State) : Result := whenDue (confirmDue c s) (expireConfirm c) s

/-- A RESTORING channel's restore timer expires (R7). -/
def restoreDue (c : ChannelNo) (s : State) : Bool :=
  sampledChannel c s && (s.chan c).state = .restoring && (s.chan c).restoreTimer.expired s.now

/-- The channel restores if its qualified band is NORMAL, and otherwise holds the expiry (R7, R8). -/
def expireRestore (c : ChannelNo) (s : State) : State :=
  if (s.chan c).qualified = .normal then contactRestore c s else s.setChan c fun ch => { ch with restoreTimer := .held }

/-- RESTORE_TIMER_EXPIRY (R7). -/
def execRestoreTimerExpiry (c : ChannelNo) (s : State) : Result := whenDue (restoreDue c s) (expireRestore c) s

/-- A FLOW or COUNT channel's window has ended (R11). -/
def windowDue (c : ChannelNo) (s : State) : Bool := sampledChannel c s && reached (s.chan c).windowEnd s.now

/-- WINDOW_END (R11). -/
def execWindowEnd (c : ChannelNo) (s : State) : Result :=
  whenDue (windowDue c s) (fun s => endWindow c ((s.chan c).windowEnd.getD s.now) s) s

/-- The sampled band has been held for the wiring test's 1 s (R3). -/
def heldOneSecond (c : ChannelNo) (s : State) : Bool := sampledChannel c s && (s.chan c).bandSince + 1000 ≤ s.now

/-- A band that is a wiring fault. -/
def Band.isFault (b : Band) : Bool := b = .opened || b = .short

/-- A fault entry: OPEN or SHORT held for 1 s outside FAULT (R3, R16). -/
def faultEntryDue (c : ChannelNo) (s : State) : Bool :=
  heldOneSecond c s && (s.chan c).sampled.isFault && (s.chan c).state ≠ .fault && (s.chan c).state ≠ .disabled

/-- WIRING_FAULT_ENTRY (R16). -/
def execWiringFaultEntry (c : ChannelNo) (s : State) : Result := whenDue (faultEntryDue c s) (faultEntry c) s

/-- A fault band change: another OPEN or SHORT band held for 1 s in FAULT (R3, R17). -/
def faultBandChangeDue (c : ChannelNo) (s : State) : Bool :=
  heldOneSecond c s && (s.chan c).sampled.isFault && (s.chan c).state = .fault
    && (s.chan c).faultBand.isSome && (s.chan c).faultBand ≠ some (s.chan c).sampled

/-- WIRING_FAULT_BAND_CHANGE (R17). -/
def execWiringFaultBandChange (c : ChannelNo) (s : State) : Result :=
  whenDue (faultBandChangeDue c s) (fun s => faultBandChange c ((s.chan c).faultBand.getD .opened) s) s

/-- A fault exit: NORMAL or ACTIVE held for 1 s in FAULT (R3, R18). -/
def faultExitDue (c : ChannelNo) (s : State) : Bool :=
  heldOneSecond c s && !(s.chan c).sampled.isFault && (s.chan c).state = .fault && (s.chan c).faultBand.isSome

/-- WIRING_FAULT_EXIT (R18). -/
def execWiringFaultExit (c : ChannelNo) (s : State) : Result :=
  whenDue (faultExitDue c s) (fun s => faultExit c ((s.chan c).faultBand.getD .opened) s) s

end Sys2Proof.Machine
end

