-- ==== Sys2Proof/Machine/QueueEvents.lean ====
section
/-! DEFINITION. The meanings of the report queue's events, ELIGIBLE_AT_REACHED and REST_END (R31, R43), and of the trouble unit's
TEST_TIMER_EXPIRY (R148). -/

namespace Sys2Proof.Machine

/-- A QUEUED report's eligible-at has been reached (R31). -/
def eligibleAtDue (seq : Nat) (s : State) : Bool :=
  s.running &&
    match s.report seq with
    | some r => r.state = .queued && r.eligibleAt ≤ s.clock
    | none => false

/-- ELIGIBLE_AT_REACHED: the queue decides its head anew (R31). -/
def execEligibleAtReached (seq : Nat) (s : State) : Result := whenDue (eligibleAtDue seq s) decideHead s

/-- A RESTING report's rest end has been reached (R43). -/
def restEndDue (seq : Nat) (s : State) : Bool :=
  s.running &&
    match s.report seq with
    | some r => r.state = .resting && reached r.restEnd s.clock
    | none => false

/-- A report returns from rest: QUEUED with call attempts 0, eligible now (R43). -/
def returnFromRest (seq : Nat) (s : State) : State :=
  decideHead (s.setReport seq fun r =>
    { r with state := .queued, attempts := 0, eligibleAt := s.clock, restEnd := none })

/-- REST_END (R43). -/
def execRestEnd (seq : Nat) (s : State) : Result := whenDue (restEndDue seq s) (returnFromRest seq) s

/-- The test timer expires (R148). -/
def testTimerDue (s : State) : Bool := s.running && reached s.trouble.testExpiry s.clock

/-- The next expiry is set one interval after this one; a TEST report of event 320 is handed, or a missed test counted (R148). -/
def expireTestTimer (s : State) : State :=
  let s1 := { s with trouble := { s.trouble with
    testExpiry := s.trouble.testExpiry.map (· + 3600 * s.settings.testHours) } }
  if s.testPresent 320 then
    { s1 with trouble := { s1.trouble with missedTests := saturatingSucc 255 s1.trouble.missedTests } }
  else handReport (testReport 320 s.clock) s1

/-- TEST_TIMER_EXPIRY (R148). -/
def execTestTimerExpiry (s : State) : Result := whenDue (testTimerDue s) expireTestTimer s

end Sys2Proof.Machine
end

