-- ==== Sys2Proof/Machine/AccessEvents.lean ====
section
/-! DEFINITION. The meanings of the access controller's events: HOLDOFF_DEADLINE, PREEMPT_WAIT_EXPIRY, YIELD_DEMAND_REPEAT,
YIELD_DEMAND_GAP_END, PREEMPT_SUCCESS and PREEMPT_RESPONSE_END (chapter 4). -/

namespace Sys2Proof.Machine

/-- The hold-off deadline has been reached (R77). -/
def holdoffDue (s : State) : Bool :=
  match s.access.state with
  | .holdoff _ _ _ _ deadline => s.running && deadline ≤ s.now
  | _ => false

/-- HOLDOFF_DEADLINE: the idle seize of the chosen line (R82). -/
def execHoldoffDeadline (s : State) : Result := whenDue (holdoffDue s) seizeChosen s

/-- 2 s have passed since wait-since, for the first time in this wait (R78). -/
def preemptWaitDue (s : State) : Bool :=
  match s.access.state with
  | .wait _ since waited => s.running && !waited && since + 2000 ≤ s.now
  | _ => false

/-- The preempt wait has expired, and the preemption test is made (R78, R88). -/
def expirePreemptWait (s : State) : State :=
  match s.access.state with
  | .wait t0 since _ => preemptionTest (s.setAccess (.wait t0 since true))
  | _ => s

/-- PREEMPT_WAIT_EXPIRY (R78). -/
def execPreemptWaitExpiry (s : State) : Result := whenDue (preemptWaitDue s) expirePreemptWait s

/-- The preempt record while DEMANDING. -/
def demandingRecord (s : State) : Option PreemptRecord :=
  match s.access.state with
  | .preempt _ _ rec => if s.running && rec.phase = .demanding then some rec else none
  | _ => none

/-- Whether an instant of the preempt record has been reached while DEMANDING. -/
def demandingDue (instant : PreemptRecord → Option Nat) (s : State) : Bool :=
  match demandingRecord s with
  | some rec => reached (instant rec) s.now
  | none => false

/-- A further yield demand begins for the head's class (R90). -/
def repeatDemand (s : State) : State :=
  match s.access.state, s.headReport with
  | .preempt t0 l rec, some r => beginDemand t0 l rec r.matter.cls s
  | _, _ => s

/-- A further demand falls due 400 ms after the end of the one before it (R90). -/
def yieldRepeatDue (s : State) : Bool := demandingDue (·.nextDemand) s && s.headReport.isSome

/-- YIELD_DEMAND_REPEAT: 400 ms after the demand before it, up to three in all (R90). -/
def execYieldDemandRepeat (s : State) : Result := whenDue (yieldRepeatDue s) repeatDemand s

/-- The class digit read at the demand's beginning is sent for 200 ms (R90). -/
def sendClassDigit (s : State) : State :=
  match s.access.state with
  | .preempt t0 l rec =>
    (requestTone l (digitSym rec.digit.rank) 200 s).setAccess (.preempt t0 l { rec with gapEnd := none })
  | _ => s

/-- The 200 ms after a demand's D are over (R90). -/
def yieldGapDue (s : State) : Bool := demandingDue (·.gapEnd) s

/-- YIELD_DEMAND_GAP_END (R90). -/
def execYieldDemandGapEnd (s : State) : Result := whenDue (yieldGapDue s) sendClassDigit s

/-- Success: a break release, and the phase becomes BREAK (R91). -/
def succeedPreempt (s : State) : State :=
  match s.access.state with
  | .preempt t0 l rec =>
    (releaseLine .access .brk l s).setAccess
      (.preempt t0 l { rec with phase := .break, gapEnd := none, nextDemand := none })
  | _ => s

/-- The qualified current has been SOLE for 200 ms (R91). -/
def preemptSuccessDue (s : State) : Bool := demandingDue (fun rec => rec.soleSince.map (· + 200)) s

/-- PREEMPT_SUCCESS (R91). -/
def execPreemptSuccess (s : State) : Result := whenDue (preemptSuccessDue s) succeedPreempt s

/-- The preemption fails: a no-yield release, a contention charge, and a new choice with T0 now (R92). -/
def failPreempt (s : State) : State :=
  match s.access.state with
  | .preempt _ l _ => chooseLine s.now (raiseHeadContention (releaseLine .access .noYield l s))
  | _ => s

/-- The response end has been reached without success (R92). -/
def preemptResponseDue (s : State) : Bool := demandingDue (fun rec => some rec.responseEnd) s

/-- PREEMPT_RESPONSE_END (R92). -/
def execPreemptResponseEnd (s : State) : Result := whenDue (preemptResponseDue s) failPreempt s

end Sys2Proof.Machine
end

