-- ==== Sys2Proof/Machine/LineEvents.lean ====
section
/-! DEFINITION. The meanings of the line units' events: the samples, the qualified bands, the ends of SETTLING, GUARD, BREAK and the
faults, the check window, intrusion and loop loss (chapter 3). -/

namespace Sys2Proof.Machine

/-! ### Line voltage (R51, R53 to R57, R61) -/

/-- The line unit senses voltage: the line is fitted and its relay open (R51). -/
def sensesVoltage (l : LineNo) (s : State) : Bool :=
  s.running && (s.line l).state ≠ .unfitted && (s.line l).state ≠ .held

/-- A voltage sample: a change restarts the counts, and begins or ends a dead run (R51). -/
def Line.sampleOnhook (now : Nat) (b : OnhookBand) (ln : Line) : Line :=
  if ln.sampledOnhook = some b then ln
  else
    { ln with
      sampledOnhook := some b, onhookSince := now
      deadRunStart := if b = .dead then some now else none }

/-- LINE_VOLTAGE_SAMPLE (R51). -/
def execLineVoltageSample (l : LineNo) (millivolts : Nat) (s : State) : Result :=
  whenDue (sensesVoltage l s) (fun s => s.setLine l (Line.sampleOnhook s.now (OnhookBand.ofMillivolts millivolts))) s

/-- The state of a qualified on-hook band. -/
def OnhookBand.lineState : OnhookBand → LineState
  | .idle => .idle
  | .occupied => .occupied
  | .dead => .suspect

/-- The line's record in the state of its on-hook band: the occupant is unknown, and the no-yield mark is kept only from a
GUARD that ends in OCCUPIED (R54, R55, R58). -/
def Line.enterOnhook (now : Nat) (b : OnhookBand) (ln : Line) : Line :=
  { ln with
    state := b.lineState, enteredAt := now, periodOver := false, faultCause := none
    occupant := none, noYield := ln.noYield && ln.state = .guard && b = .occupied }

/-- The dead run has reached 10 s (R55, R61). -/
def deadRunLong (l : LineNo) (s : State) : Bool := reached ((s.line l).deadRunStart.map (· + 10000)) s.now

/-- A SUSPECT line enters FAULTED with cause DEAD (R55); a NO_LOOP fault becomes a dead one without a change of state (R61). -/
def deadFault (l : LineNo) (s : State) : State :=
  if (s.line l).state = .faulted then
    tellTrouble (.lineDead l) true (s.setLine l fun ln => { ln with faultCause := some .dead })
  else
    tellTrouble (.lineDead l) true (accessLineNotice l (s.setLine l fun ln =>
      { ln with state := .faulted, enteredAt := s.now, periodOver := false, faultCause := some .dead }))

/-- The line takes the state of an on-hook band and tells the access controller; into SUSPECT with a dead run of 10 s it goes on
to FAULTED at once (R53 to R55, R57, R61). -/
def enterOnhook (l : LineNo) (b : OnhookBand) (s : State) : State :=
  let s1 := accessLineNotice l (s.setLine l (Line.enterOnhook s.now b))
  if b = .dead ∧ deadRunLong l s1 then deadFault l s1 else s1

/-- The end of a timed stay: the state of the qualified band, or of the first to qualify from now on (R53, R57, R61). -/
def endPeriod (l : LineNo) (s : State) : State :=
  match (s.line l).qualifiedOnhook with
  | some b => enterOnhook l b s
  | none => s.setLine l fun ln => { ln with periodOver := true }

/-- The sampled voltage band has been held for 100 ms and is not yet the qualified band (R51). -/
def onhookDue (l : LineNo) (s : State) : Bool :=
  sensesVoltage l s && (s.line l).sampledOnhook.isSome && (s.line l).sampledOnhook ≠ (s.line l).qualifiedOnhook
    && (s.line l).onhookSince + 100 ≤ s.now

/-- Whether a qualified band moves the line out of its state (R53 to R57, R61, R63). -/
def movesLine (ln : Line) (b : OnhookBand) : Bool :=
  match ln.state with
  | .idle | .occupied | .suspect => b.lineState ≠ ln.state
  | .settling | .guard => ln.periodOver
  | .faulted => ln.periodOver && ln.faultCause = some .noLoop
  | .unfitted | .held | .break => false

/-- The sampled voltage band becomes the qualified band (R51, R54). -/
def qualifyOnhook (l : LineNo) (s : State) : State :=
  let s1 := s.setLine l fun ln => { ln with qualifiedOnhook := ln.sampledOnhook }
  match (s.line l).sampledOnhook with
  | some b => if movesLine (s.line l) b then enterOnhook l b s1 else s1
  | none => s1

/-- LINE_ONHOOK_BAND_QUALIFIED (R54). -/
def execLineOnhookBandQualified (l : LineNo) (s : State) : Result := whenDue (onhookDue l s) (qualifyOnhook l) s

/-- A timed stay in a state has lasted its time, for the first time. -/
def periodDue (st : LineState) (time : Nat) (l : LineNo) (s : State) : Bool :=
  s.running && (s.line l).state = st && !(s.line l).periodOver && (s.line l).enteredAt + time ≤ s.now

/-- SETTLING has lasted 2 s (R53). -/
def settlingDue (l : LineNo) (s : State) : Bool := periodDue .settling 2000 l s

/-- SETTLING_END (R53). -/
def execSettlingEnd (l : LineNo) (s : State) : Result := whenDue (settlingDue l s) (endPeriod l) s

/-- GUARD has lasted 1500 ms (R57). -/
def guardDue (l : LineNo) (s : State) : Bool := periodDue .guard 1500 l s

/-- GUARD_END (R57). -/
def execGuardEnd (l : LineNo) (s : State) : Result := whenDue (guardDue l s) (endPeriod l) s

/-- FAULTED has lasted 30 s with the cause still NO_LOOP (R61). -/
def noLoopFaultDue (l : LineNo) (s : State) : Bool :=
  periodDue .faulted 30000 l s && (s.line l).faultCause = some .noLoop

/-- NO_LOOP_FAULT_END (R61). -/
def execNoLoopFaultEnd (l : LineNo) (s : State) : Result := whenDue (noLoopFaultDue l s) (endPeriod l) s

/-- A dead run of 10 s in SUSPECT, or in a NO_LOOP fault (R55, R61). -/
def deadRunDue (l : LineNo) (s : State) : Bool :=
  s.running && deadRunLong l s
    && ((s.line l).state = .suspect || ((s.line l).state = .faulted && (s.line l).faultCause = some .noLoop))

/-- DEAD_RUN_LIMIT (R55). -/
def execDeadRunLimit (l : LineNo) (s : State) : Result := whenDue (deadRunDue l s) (deadFault l) s

/-- The sampled band of a dead line has been IDLE, or OCCUPIED, for 5 s (R56). -/
def recoveryDue (l : LineNo) (s : State) : Bool :=
  s.running && (s.line l).state = .faulted && (s.line l).faultCause = some .dead
    && ((s.line l).sampledOnhook = some .idle || (s.line l).sampledOnhook = some .occupied)
    && (s.line l).onhookSince + 5000 ≤ s.now

/-- The line recovers into the state of its sampled band, and LINE_DEAD becomes inactive (R56). -/
def recoverLine (l : LineNo) (s : State) : State :=
  match (s.line l).sampledOnhook with
  | some b => tellTrouble (.lineDead l) false (enterOnhook l b s)
  | none => s

/-- DEAD_FAULT_RECOVERY (R56). -/
def execDeadFaultRecovery (l : LineNo) (s : State) : Result := whenDue (recoveryDue l s) (recoverLine l) s

/-! ### Loop current (R52, R60, R61, R64, R65) -/

/-- The line unit senses current: the line is HELD (R52). -/
def sensesCurrent (l : LineNo) (s : State) : Bool := s.running && (s.line l).state = .held

/-- A current sample: a change begins the runs that qualification, intrusion and loop loss time (R52, R64, R65). -/
def Line.sampleCurrent (now : Nat) (b : CurrentBand) (ln : Line) : Line :=
  if ln.sampledCurrent = some b then ln
  else
    { ln with
      sampledCurrent := some b, currentSince := now
      sharedFromSole := ln.sampledCurrent = some .sole && b = .shared, lossGiven := false }

/-- LOOP_CURRENT_SAMPLE (R52). -/
def execLoopCurrentSample (l : LineNo) (microamps : Nat) (s : State) : Result :=
  whenDue (sensesCurrent l s) (fun s => s.setLine l (Line.sampleCurrent s.now (CurrentBand.ofMicroamps microamps))) s

/-- The sampled current band has been held for 20 ms and is not yet the qualified band (R52). -/
def currentDue (l : LineNo) (s : State) : Bool :=
  sensesCurrent l s && (s.line l).sampledCurrent.isSome && (s.line l).sampledCurrent ≠ (s.line l).qualifiedCurrent
    && (s.line l).currentSince + 20 ≤ s.now

/-- A check window finds another party: COLLISION or UNSETTLED (R60). -/
def foundShared (res : CheckResult) (l : LineNo) (s : State) : State :=
  accessCheckResult res
    (dropToGuard false l (s.setLine l fun ln => { ln with collisions := saturatingSucc 65535 ln.collisions }))

/-- A change of qualified current band outside a check window is told to the holder; the call engine takes no action on it
(R52, R97). -/
def tellCurrent (l : LineNo) (b : CurrentBand) (s : State) : State :=
  if (s.line l).holder = some .access then accessCurrentChange b s else s

/-- The sampled current band becomes the qualified band, told to the holder or used by the check window (R52, R60). -/
def qualifyCurrent (l : LineNo) (s : State) : State :=
  let s1 := s.setLine l fun ln => { ln with qualifiedCurrent := ln.sampledCurrent, qualifiedCurrentSince := s.now }
  match (s.line l).sampledCurrent with
  | some b =>
    if (s.line l).checkStart.isSome then if b = .shared then foundShared .collision l s1 else s1
    else tellCurrent l b s1
  | none => s1

/-- CURRENT_BAND_QUALIFIED (R52). -/
def execCurrentBandQualified (l : LineNo) (s : State) : Result := whenDue (currentDue l s) (qualifyCurrent l) s

/-- The 400 ms of a check window are over (R60). -/
def checkWindowDue (l : LineNo) (s : State) : Bool :=
  sensesCurrent l s && reached ((s.line l).checkStart.map (· + 400)) s.now

/-- The result at the end of a check window (R60). -/
def checkVerdict (ln : Line) : CheckResult :=
  match ln.qualifiedCurrent, ln.checkStart with
  | some .sole, some start => if ln.qualifiedCurrentSince ≤ start + 200 then .clear else .unsettled
  | some .none, _ => .noLoop
  | _, _ => .unsettled

/-- CLEAR: the line stays HELD, and a no-loop condition in force ends (R60). -/
def checkedClear (l : LineNo) (s : State) : State :=
  let s1 := s.setLine l fun ln => { ln with checkStart := none, noLoop := false }
  accessCheckResult .clear (if (s.line l).noLoop then tellTrouble (.lineNoLoop l) false s1 else s1)

/-- NO_LOOP: the line enters FAULTED with its relay open, and the no-loop condition becomes active if it was not (R61). -/
def checkedNoLoop (l : LineNo) (s : State) : State :=
  let s1 := silenceLine l (s.setLine l fun ln =>
    { (ln.openRelay s.now .faulted none).receiverAnew s.now with faultCause := some .noLoop, noLoop := true })
  accessCheckResult .noLoop (if (s.line l).noLoop then s1 else tellTrouble (.lineNoLoop l) true s1)

/-- The check window ends with its result (R60). -/
def endCheckWindow (l : LineNo) (s : State) : State :=
  match checkVerdict (s.line l) with
  | .clear => checkedClear l s
  | .noLoop => checkedNoLoop l s
  | .unsettled => foundShared .unsettled l s
  | .collision => foundShared .collision l s

/-- CHECK_WINDOW_END (R60). -/
def execCheckWindowEnd (l : LineNo) (s : State) : Result := whenDue (checkWindowDue l s) (endCheckWindow l) s

/-- The 1000 ms of BREAK are over (R63). -/
def breakDue (l : LineNo) (s : State) : Bool :=
  s.running && (s.line l).state = .break && (s.line l).enteredAt + 1000 ≤ s.now

/-- The line unit re-seizes its line, and the access controller, told of the return to HELD, enters AC_CHECK (R63, R91). -/
def endBreak (l : LineNo) (s : State) : State :=
  let s1 := reseizeLine l s
  match s.access.state with
  | .preempt t0 held rec => if held = l ∧ rec.phase = .break then s1.setAccess (.check t0 l) else s1
  | _ => s1

/-- BREAK_END (R63). -/
def execBreakEnd (l : LineNo) (s : State) : Result := whenDue (breakDue l s) (endBreak l) s

/-- Sampled current has gone from SOLE to SHARED and stayed there for 50 ms, outside a check window (R64). DEDUCED (log entry 28): a run
that began in the last 20 ms of a check window, or just 20 ms before its end with the end taken first, has not ended the window (R60),
although R64 says that it has; it then counts from its beginning, and its 50 ms point is an intrusion. -/
def intrusionDue (l : LineNo) (s : State) : Bool :=
  sensesCurrent l s && (s.line l).checkStart.isNone && (s.line l).sampledCurrent = some .shared
    && (s.line l).sharedFromSole && (s.line l).currentSince + 50 ≤ s.now

/-- A report of a held line goes to its holder (R59). -/
def tellHolder (l : LineNo) (access call : State → State) (s : State) : State :=
  match (s.line l).holder with
  | some .access => access s
  | some .call => if s.call.line = some l then call s else s
  | none => s

/-- INTRUSION: reported to the holder once for the run (R64, R93, R112). -/
def execIntrusion (l : LineNo) (s : State) : Result :=
  whenDue (intrusionDue l s)
    (fun s => tellHolder l accessIntrusion pauseCall (s.setLine l fun ln => { ln with sharedFromSole := false })) s

/-- Sampled current has been NONE for 500 ms in HELD (R65). -/
def loopLossDue (l : LineNo) (s : State) : Bool :=
  sensesCurrent l s && (s.line l).sampledCurrent = some .none && !(s.line l).lossGiven
    && (s.line l).currentSince + 500 ≤ s.now

/-- LOOP_LOSS: reported to the holder once for the run (R65, R93, R110). -/
def execLoopLoss (l : LineNo) (s : State) : Result :=
  whenDue (loopLossDue l s)
    (fun s => tellHolder l accessLoopLoss callLoopLoss (s.setLine l fun ln => { ln with lossGiven := true })) s

end Sys2Proof.Machine
end

