-- ==== Sys2Proof/Machine/ToneEvents.lean ====
section
/-! DEFINITION. The meanings of the tone receivers' reports (R66, R67, R169) and of TONE_REQUEST_DONE (R68). A report goes to the
call engine from a line in HELD or BREAK, and to the peer listener from any other fitted line (R67). -/

namespace Sys2Proof.Machine

/-- The receiver was already classifying a time ago, or at this instant's change of the block its reports go to the receiver before
the change was: a report that falls together with the change may be taken after it (R67). -/
def Line.classifiedFor (time now : Nat) (ln : Line) : Bool :=
  ln.receiverSince + time ≤ now ||
    match ln.formerReceiver with
    | some f => f.ended = now && f.since + time ≤ now
    | none => false

/-- The receiver of a line hears a sound that began a time ago: the line is fitted, the part's own tone does not sound on it, and
the receiver was already classifying when the sound began (R66 to R68; log entry 9). -/
def hears (l : LineNo) (time : Nat) (s : State) : Bool :=
  s.running && (s.line l).state ≠ .unfitted && !toneSounds l s && (s.line l).classifiedFor time s.now

/-- Something has been recognised on a line, ended or last heard now (R66). -/
def noteHeard (l : LineNo) (f : Line → Line) (s : State) : State :=
  s.setLine l fun ln => { f ln with toSilence := true, lastHeard := s.now }

/-- A report goes to the call engine, when the line is the call's, or to the peer listener (R67). -/
def routeTone (l : LineNo) (call peer : State → State) (s : State) : State :=
  if (s.line l).state = .held ∨ (s.line l).state = .break then if s.call.line = some l then call s else s
  else peer s

/-- A symbol reported at its end (R66). -/
def reportSymbol (l : LineNo) (y : Sym) (duration : Nat) (s : State) : State :=
  routeTone l (callSymbol y duration) (peerSymbol l y duration) (noteHeard l id s)

/-- SYMBOL_REPORT: a pair stable for 40 ms or more; a pair that matches no symbol is not reported (R66, R169). -/
def execSymbolReport (l : LineNo) (pair : TonePair) (duration : Nat) (s : State) : Result :=
  whenDue (hears l duration s && symbolTime ≤ duration)
    (fun s => match TonePair.sym pair with
      | some y => reportSymbol l y duration s
      | none => s) s

/-- DIAL_RECOGNISED (R66, R100, R113). -/
def execDialRecognised (l : LineNo) (freq : Nat) (s : State) : Result :=
  whenDue (hears l dialTime s && isCallProgress freq)
    (fun s => routeTone l callDial (discardStream l) (noteHeard l (fun ln => { ln with dialHeard := true }) s)) s

/-- DIAL_END: the end of a recognised DIAL (R66). -/
def execDialEnd (l : LineNo) (duration : Nat) (s : State) : Result :=
  whenDue (hears l 0 s && (s.line l).dialHeard && dialTime ≤ duration)
    (noteHeard l fun ln => { ln with dialHeard := false }) s

/-- BUSY_REPORT: two cycles within the limits (R66, R102, R113). -/
def execBusyReport (l : LineNo) (freq : Nat) (cadence : Cadence) (s : State) : Result :=
  whenDue (hears l (Cadence.length cadence) s && isCallProgress freq && Cadence.isBusy cadence)
    (fun s => routeTone l callBusy (discardStream l) (noteHeard l id s)) s

/-- HANDSHAKE_RECOGNISED (R66, R102, R113). -/
def execHandshakeRecognised (l : LineNo) (freq : Nat) (s : State) : Result :=
  whenDue (hears l handshakeTime s && isHandshake freq)
    (fun s => routeTone l callHandshake (discardStream l) (noteHeard l (fun ln => { ln with handshakeHeard := true }) s)) s

/-- HANDSHAKE_END: the end of a recognised HANDSHAKE (R66, R102). -/
def execHandshakeEnd (l : LineNo) (duration : Nat) (s : State) : Result :=
  whenDue (hears l 0 s && (s.line l).handshakeHeard && handshakeTime ≤ duration)
    (fun s => routeTone l callHandshakeEnd id (noteHeard l (fun ln => { ln with handshakeHeard := false }) s)) s

/-- ACK_RECOGNISED: a stream in progress is broken before a peer's acknowledgement counts (R66, R105, R125, R130). -/
def execAckRecognised (l : LineNo) (freq : Nat) (s : State) : Result :=
  whenDue (hears l ackTime s && isAck freq)
    (fun s => routeTone l callAck (fun t => peerAck l (discardStream l t))
      (noteHeard l (fun ln => { ln with ackHeard := true }) s)) s

/-- ACK_END: the end of a recognised ACK (R66, R107). -/
def execAckEnd (l : LineNo) (duration : Nat) (s : State) : Result :=
  whenDue (hears l 0 s && (s.line l).ackHeard && ackTime ≤ duration)
    (fun s => routeTone l callAckEnd id (noteHeard l (fun ln => { ln with ackHeard := false }) s)) s

/-- Nothing has been recognised for 300 ms since the last recognised item ended, and SILENCE is not yet reported (R66). DEDUCED (log
entry 9): the receiver must also have been classifying for those 300 ms, so that they count anew from the end of an own tone; R68 says
only that the receiver resumes there. -/
def silenceDue (l : LineNo) (s : State) : Bool :=
  hears l silenceTime s && (s.line l).toSilence && (s.line l).lastHeard + silenceTime ≤ s.now
    && !(s.line l).dialHeard && !(s.line l).handshakeHeard && !(s.line l).ackHeard

/-- SILENCE_REPORT (R66, R125). -/
def execSilenceReport (l : LineNo) (s : State) : Result :=
  whenDue (silenceDue l s)
    (fun s => routeTone l id (discardStream l) (s.setLine l fun ln => { ln with toSilence := false })) s

/-- The tone now sounding has lasted its duration (R68). -/
def toneDue (s : State) : Bool :=
  match s.tone.sounding with
  | some (_, ends) => s.running && ends ≤ s.now
  | none => false

/-- The requested tone is finished; the next request starts, and the block that asked for it goes on (R68, R90, R101, R103). -/
def endTone (s : State) : State :=
  match s.tone.sounding with
  | some (r, _) => callToneDone r.line (accessToneDone r.line r.sym (finishTone r s))
  | none => s

/-- TONE_REQUEST_DONE (R68). -/
def execToneRequestDone (s : State) : Result := whenDue (toneDue s) endTone s

end Sys2Proof.Machine
end

