-- ==== Sys2Proof/Machine/CallEvents.lean ====
section
/-! DEFINITION. The meanings of the call engine's events: TAKE_GRANT, DIAL_DEADLINE, DIAL_GAP_END, HANDSHAKE_DEADLINE, LEAD_IN_DUE,
BLOCK_SYMBOL_GAP_END, ACK_DEADLINE and PAUSE_END (chapter 5). -/

namespace Sys2Proof.Machine

/-- A grant is offered and the call engine is in CE_IDLE (R87, R97). -/
def takeGrantDue (s : State) : Bool :=
  match s.access.state with
  | .granted _ _ head _ => s.running && s.call.state = .idle && (s.report head).isSome
  | _ => false

/-- The call engine takes the grant offered (R97). -/
def takeOffered (s : State) : State :=
  match s.access.state with
  | .granted _ l head passed =>
    match s.report head with
    | some r => takeGrant l r passed s
    | none => s
  | _ => s

/-- TAKE_GRANT (R97). -/
def execTakeGrant (s : State) : Result := whenDue (takeGrantDue s) takeOffered s

/-- The dial deadline has been reached without a recognition, in a pause too (R100, R113). -/
def dialDeadlineDue (s : State) : Bool :=
  s.running && s.call.working = .dialtoneWait && reached s.call.dialDeadline s.now

/-- DIAL_DEADLINE: the call ends NO_DIAL_TONE (R100). -/
def execDialDeadline (s : State) : Result := whenDue (dialDeadlineDue s) (endCall .noDialTone) s

/-- The gap after a dialled digit, or a pause mark, has lasted its time (R101). -/
def dialGapDue (s : State) : Bool := s.running && s.call.state = .dialling && reached s.call.gapEnd s.now

/-- DIAL_GAP_END (R101). -/
def execDialGapEnd (s : State) : Result := whenDue (dialGapDue s) endDialGap s

/-- The handshake deadline has been reached with no handshake ended, in a pause too (R102, R113). -/
def handshakeDeadlineDue (s : State) : Bool :=
  s.running && s.call.working = .awaitHandshake && reached s.call.handshakeDeadline s.now

/-- HANDSHAKE_DEADLINE: the call ends NO_ANSWER (R102). -/
def execHandshakeDeadline (s : State) : Result := whenDue (handshakeDeadlineDue s) (endCall .noAnswer) s

/-- The lead-in has run out, and no pause holds it back (R102, R107, R113). -/
def leadInIsDue (s : State) : Bool :=
  s.running && (s.call.state = .awaitHandshake || s.call.state = .awaitAck) && reached s.call.leadIn s.now

/-- LEAD_IN_DUE: the first batch entry becomes the block in flight (R102, R107). -/
def execLeadInDue (s : State) : Result := whenDue (leadInIsDue s) beginBlock s

/-- The gap after a block symbol has lasted 60 ms (R103). -/
def blockGapDue (s : State) : Bool := s.running && s.call.state = .sendingBlock && reached s.call.gapEnd s.now

/-- BLOCK_SYMBOL_GAP_END (R103). -/
def execBlockSymbolGapEnd (s : State) : Result := whenDue (blockGapDue s) sendSymbol s

/-- The ACK deadline has been reached, in a pause too (R106, R113). -/
def ackDeadlineDue (s : State) : Bool := s.running && s.call.working = .awaitAck && reached s.call.ackDeadline s.now

/-- ACK_DEADLINE (R106). -/
def execAckDeadline (s : State) : Result := whenDue (ackDeadlineDue s) expireAck s

/-- The pause end has been reached (R116). -/
def pauseEndDue (s : State) : Bool :=
  s.running && s.call.state = .paused && reached (s.call.pause.map (·.pauseEnd)) s.now

/-- PAUSE_END (R116). -/
def execPauseEnd (s : State) : Result := whenDue (pauseEndDue s) endPause s

end Sys2Proof.Machine
end

