-- ==== Sys2Proof/Machine/ListenerEvents.lean ====
section
/-! DEFINITION. The meanings of the peer listener's own events: CLASH_END, AWAITING_ACK_DEADLINE and HEARD_ENTRY_EXPIRY (chapter 6). -/

namespace Sys2Proof.Machine

/-- The unit clock has reached the clash end (R131). -/
def clashEndDue (s : State) : Bool := s.running && reached s.listener.clashEnd s.clock

/-- The clash condition becomes inactive (R131). -/
def endClash (s : State) : State :=
  tellTrouble .stationClash false { s with listener := { s.listener with clashEnd := none } }

/-- CLASH_END (R131). -/
def execClashEnd (s : State) : Result := whenDue (clashEndDue s) endClash s

/-- A line's awaiting acknowledgement has reached its deadline (R130). -/
def awaitingDue (l : LineNo) (s : State) : Bool :=
  s.running && reached ((s.decoder l).awaiting.map (·.deadline)) s.now

/-- AWAITING_ACK_DEADLINE (R130). -/
def execAwaitingAckDeadline (l : LineNo) (s : State) : Result :=
  whenDue (awaitingDue l s) (fun s => s.setDecoder l fun d => { d with awaiting := none }) s

/-- The unit clock has passed a heard entry's heard time plus the coverage window (R129). -/
def heardExpired (key : HeardKey) (s : State) : Bool :=
  s.running && s.listener.heard.any fun e => e.key = key && e.heard + s.settings.coverage < s.clock

/-- HEARD_ENTRY_EXPIRY (R129). -/
def execHeardEntryExpiry (key : HeardKey) (s : State) : Result := whenDue (heardExpired key s) (forgetHeard key) s

end Sys2Proof.Machine
end

