-- ==== Sys2Proof/Machine/PortEvents.lean ====
section
/-! DEFINITION. The meanings of the maintenance port's events and of its thirteen commands (chapter 9). -/

namespace Sys2Proof.Machine

/-- CHARACTER_RECEIVED: discarded during a start and with a framing error (R161). -/
def execCharacterReceived (code : Byte) (framingError : Bool) (s : State) : Result :=
  whenDue (s.running && !framingError) (takeCharacter code.toNat) s

/-- The last character of the answer has been sent: the first whole millisecond not before its end (R161, R162; log entry 15). -/
def answerEndDue (s : State) : Bool := s.running && reached (s.port.answer.map (·.ends)) (24 * s.now)

/-- ANSWER_END (R162, R168). -/
def execAnswerEnd (s : State) : Result := whenDue (answerEndDue s) endAnswer s

/-- IDENT (R164). -/
def execIdent (s : State) : Result := .next (giveCommand .ident doIdent s)

/-- STATUS (R164). -/
def execStatus (s : State) : Result := .next (giveCommand .status doStatus s)

/-- QUEUE (R164). -/
def execQueue (s : State) : Result := .next (giveCommand .queue doQueue s)

/-- HIST (R164). -/
def execHist (n : Nat) (s : State) : Result := .next (giveCommand (.hist n) (doHist n) s)

/-- LINES (R164). -/
def execLines (s : State) : Result := .next (giveCommand .lines doLines s)

/-- CHAN (R164). -/
def execChan (n : Nat) (s : State) : Result := .next (giveCommand (.chan n) (doChan n) s)

/-- TROUBLE (R164). -/
def execTrouble (s : State) : Result := .next (giveCommand .trouble doTrouble s)

/-- ACK (R145, R165). -/
def execAck (s : State) : Result := .next (giveCommand .ack doAck s)

/-- BYPASS (R20, R165). -/
def execBypass (n : Nat) (s : State) : Result := .next (giveCommand (.bypass n) (doBypass n) s)

/-- UNBYPASS (R21, R165). -/
def execUnbypass (n : Nat) (s : State) : Result := .next (giveCommand (.unbypass n) (doUnbypass n) s)

/-- TEST (R166). -/
def execTest (s : State) : Result := .next (giveCommand .test doTest s)

/-- ABORT (R167). -/
def execAbort (s : State) : Result := .next (giveCommand .abort doAbort s)

/-- RESTART (R168). -/
def execRestart (s : State) : Result := .next (giveCommand .restart doRestart s)

end Sys2Proof.Machine
end

