-- ==== Sys2Proof/Machine/Clock.lean ====
section
/-! DEFINITION. What the part does of itself while no command waits: the events of its own timers and qualifications that have
fallen due, and the passing of a millisecond (log entry 2). -/

namespace Sys2Proof.Machine

/-- Whether an event of the part's own has fallen due. What reaches the part from outside (supply, start pin, samples, tones,
characters, image bytes, port commands) is never due of itself. -/
def due (i : Instr) (s : State) : Bool :=
  match i with
  | .powerStable => powerStableDue s
  | .imageReadTimeout => imageReadTimeoutDue s
  | .channelBandQualified c => channelBandDue c s
  | .confirmTimerExpiry c => confirmDue c s
  | .restoreTimerExpiry c => restoreDue c s
  | .windowEnd c => windowDue c s
  | .wiringFaultEntry c => faultEntryDue c s
  | .wiringFaultBandChange c => faultBandChangeDue c s
  | .wiringFaultExit c => faultExitDue c s
  | .eligibleAtReached seq => eligibleAtDue seq s && s.firstEligible ≠ s.queue.head
  | .restEnd seq => restEndDue seq s
  | .holdoffDeadline => holdoffDue s
  | .preemptWaitExpiry => preemptWaitDue s
  | .yieldDemandRepeat => yieldRepeatDue s
  | .yieldDemandGapEnd => yieldGapDue s
  | .preemptSuccess => preemptSuccessDue s
  | .preemptResponseEnd => preemptResponseDue s
  | .lineOnhookBandQualified l => onhookDue l s
  | .settlingEnd l => settlingDue l s
  | .deadRunLimit l => deadRunDue l s
  | .deadFaultRecovery l => recoveryDue l s
  | .noLoopFaultEnd l => noLoopFaultDue l s
  | .guardEnd l => guardDue l s
  | .currentBandQualified l => currentDue l s
  | .checkWindowEnd l => checkWindowDue l s
  | .breakEnd l => breakDue l s
  | .intrusion l => intrusionDue l s
  | .loopLoss l => loopLossDue l s
  | .toneRequestDone => toneDue s
  | .takeGrant => takeGrantDue s
  | .dialDeadline => dialDeadlineDue s
  | .dialGapEnd => dialGapDue s
  | .handshakeDeadline => handshakeDeadlineDue s
  | .leadInDue => leadInIsDue s
  | .blockSymbolGapEnd => blockGapDue s
  | .ackDeadline => ackDeadlineDue s
  | .pauseEnd => pauseEndDue s
  | .clashEnd => clashEndDue s
  | .awaitingAckDeadline l => awaitingDue l s
  | .heardEntryExpiry key => heardExpired key s
  | .testTimerExpiry => testTimerDue s
  | .answerEnd => answerEndDue s
  | .powerUp | .startPinLow | .startPinRelease | .imageReadEnd _ | .symbolReport _ _ _ | .dialRecognised _ _
  | .dialEnd _ _ | .busyReport _ _ _ | .handshakeRecognised _ _ | .handshakeEnd _ _ | .ackRecognised _ _ | .ackEnd _ _
  | .silenceReport _ | .characterReceived _ _ | .ident | .status | .queue | .hist _ | .lines | .chan _ | .trouble
  | .ack | .bypass _ | .unbypass _ | .test | .abort | .restart | .channelSample _ _ | .lineVoltageSample _ _
  | .loopCurrentSample _ _ | .supplyFailure => false

/-- The events of one channel's own. -/
def channelCandidates (c : ChannelNo) : List Instr :=
  [.channelBandQualified c, .confirmTimerExpiry c, .restoreTimerExpiry c, .windowEnd c, .wiringFaultEntry c,
    .wiringFaultBandChange c, .wiringFaultExit c]

/-- The events of one line's own. -/
def lineCandidates (l : LineNo) : List Instr :=
  [.lineOnhookBandQualified l, .settlingEnd l, .deadRunLimit l, .deadFaultRecovery l, .noLoopFaultEnd l, .guardEnd l,
    .currentBandQualified l, .checkWindowEnd l, .breakEnd l, .intrusion l, .loopLoss l, .awaitingAckDeadline l]

/-- Every event of the part's own that could be due in a state. -/
def candidates (s : State) : List Instr :=
  [.powerStable, .imageReadTimeout] ++ allChannels.flatMap channelCandidates ++ allLines.flatMap lineCandidates
    ++ s.queue.reports.flatMap (fun r => [.eligibleAtReached r.seq, .restEnd r.seq])
    ++ s.listener.heard.map (fun e => .heardEntryExpiry e.key)
    ++ [.holdoffDeadline, .preemptWaitExpiry, .yieldDemandRepeat, .yieldDemandGapEnd, .preemptSuccess,
      .preemptResponseEnd, .toneRequestDone, .takeGrant, .dialDeadline, .dialGapEnd, .handshakeDeadline, .leadInDue,
      .blockSymbolGapEnd, .ackDeadline, .pauseEnd, .clashEnd, .testTimerExpiry, .answerEnd]

/-- The events that have fallen due. -/
def dueNow (s : State) : List Instr := (candidates s).filter fun i => due i s

/-- The event the part takes next of itself: one that has fallen due. Where several have, the manual leaves the order open, and
the choice is free (log entry 2). -/
def pickDue (s : State) : Option Instr :=
  match dueNow s with
  | [] => none
  | [i] => some i
  | i :: j :: rest => (i :: j :: rest)[Config.choice s.choices % (rest.length + 2)]?

/-- The next free choice is a fresh one. -/
def countChoice (s : State) : State := { s with choices := s.choices + 1 }

/-- A millisecond passes. -/
def tick (s : State) : State := { s with now := s.now + 1 }

end Sys2Proof.Machine
end

