-- ==== Sys2Proof/Machine/Dispatch.lean ====
section
/-! DEFINITION. The meaning of every command: one arm per constructor, each one call. -/

namespace Sys2Proof.Machine

def exec (i : Instr) (s : State) : Host.Outcome State Fault Refusal :=
  match i with
  | .powerUp => Sys2Proof.Machine.execPowerUp s
  | .powerStable => Sys2Proof.Machine.execPowerStable s
  | .startPinLow => Sys2Proof.Machine.execStartPinLow s
  | .startPinRelease => Sys2Proof.Machine.execStartPinRelease s
  | .imageReadEnd image => Sys2Proof.Machine.execImageReadEnd image s
  | .imageReadTimeout => Sys2Proof.Machine.execImageReadTimeout s
  | .channelBandQualified ch => Sys2Proof.Machine.execChannelBandQualified ch s
  | .confirmTimerExpiry ch => Sys2Proof.Machine.execConfirmTimerExpiry ch s
  | .restoreTimerExpiry ch => Sys2Proof.Machine.execRestoreTimerExpiry ch s
  | .windowEnd ch => Sys2Proof.Machine.execWindowEnd ch s
  | .wiringFaultEntry ch => Sys2Proof.Machine.execWiringFaultEntry ch s
  | .wiringFaultBandChange ch => Sys2Proof.Machine.execWiringFaultBandChange ch s
  | .wiringFaultExit ch => Sys2Proof.Machine.execWiringFaultExit ch s
  | .eligibleAtReached seq => Sys2Proof.Machine.execEligibleAtReached seq s
  | .restEnd seq => Sys2Proof.Machine.execRestEnd seq s
  | .holdoffDeadline => Sys2Proof.Machine.execHoldoffDeadline s
  | .preemptWaitExpiry => Sys2Proof.Machine.execPreemptWaitExpiry s
  | .yieldDemandRepeat => Sys2Proof.Machine.execYieldDemandRepeat s
  | .preemptSuccess => Sys2Proof.Machine.execPreemptSuccess s
  | .preemptResponseEnd => Sys2Proof.Machine.execPreemptResponseEnd s
  | .lineOnhookBandQualified ln => Sys2Proof.Machine.execLineOnhookBandQualified ln s
  | .settlingEnd ln => Sys2Proof.Machine.execSettlingEnd ln s
  | .deadRunLimit ln => Sys2Proof.Machine.execDeadRunLimit ln s
  | .deadFaultRecovery ln => Sys2Proof.Machine.execDeadFaultRecovery ln s
  | .noLoopFaultEnd ln => Sys2Proof.Machine.execNoLoopFaultEnd ln s
  | .guardEnd ln => Sys2Proof.Machine.execGuardEnd ln s
  | .currentBandQualified ln => Sys2Proof.Machine.execCurrentBandQualified ln s
  | .checkWindowEnd ln => Sys2Proof.Machine.execCheckWindowEnd ln s
  | .breakEnd ln => Sys2Proof.Machine.execBreakEnd ln s
  | .intrusion ln => Sys2Proof.Machine.execIntrusion ln s
  | .loopLoss ln => Sys2Proof.Machine.execLoopLoss ln s
  | .symbolReport ln pair duration => Sys2Proof.Machine.execSymbolReport ln pair duration s
  | .dialRecognised ln freq => Sys2Proof.Machine.execDialRecognised ln freq s
  | .dialEnd ln duration => Sys2Proof.Machine.execDialEnd ln duration s
  | .busyReport ln freq cadence => Sys2Proof.Machine.execBusyReport ln freq cadence s
  | .handshakeRecognised ln freq => Sys2Proof.Machine.execHandshakeRecognised ln freq s
  | .handshakeEnd ln duration => Sys2Proof.Machine.execHandshakeEnd ln duration s
  | .ackRecognised ln freq => Sys2Proof.Machine.execAckRecognised ln freq s
  | .ackEnd ln duration => Sys2Proof.Machine.execAckEnd ln duration s
  | .silenceReport ln => Sys2Proof.Machine.execSilenceReport ln s
  | .toneRequestDone => Sys2Proof.Machine.execToneRequestDone s
  | .takeGrant => Sys2Proof.Machine.execTakeGrant s
  | .dialDeadline => Sys2Proof.Machine.execDialDeadline s
  | .dialGapEnd => Sys2Proof.Machine.execDialGapEnd s
  | .handshakeDeadline => Sys2Proof.Machine.execHandshakeDeadline s
  | .leadInDue => Sys2Proof.Machine.execLeadInDue s
  | .blockSymbolGapEnd => Sys2Proof.Machine.execBlockSymbolGapEnd s
  | .ackDeadline => Sys2Proof.Machine.execAckDeadline s
  | .pauseEnd => Sys2Proof.Machine.execPauseEnd s
  | .clashEnd => Sys2Proof.Machine.execClashEnd s
  | .awaitingAckDeadline ln => Sys2Proof.Machine.execAwaitingAckDeadline ln s
  | .heardEntryExpiry key => Sys2Proof.Machine.execHeardEntryExpiry key s
  | .testTimerExpiry => Sys2Proof.Machine.execTestTimerExpiry s
  | .characterReceived code framingError => Sys2Proof.Machine.execCharacterReceived code framingError s
  | .answerEnd => Sys2Proof.Machine.execAnswerEnd s
  | .ident => Sys2Proof.Machine.execIdent s
  | .status => Sys2Proof.Machine.execStatus s
  | .queue => Sys2Proof.Machine.execQueue s
  | .hist n => Sys2Proof.Machine.execHist n s
  | .lines => Sys2Proof.Machine.execLines s
  | .chan n => Sys2Proof.Machine.execChan n s
  | .trouble => Sys2Proof.Machine.execTrouble s
  | .ack => Sys2Proof.Machine.execAck s
  | .bypass n => Sys2Proof.Machine.execBypass n s
  | .unbypass n => Sys2Proof.Machine.execUnbypass n s
  | .test => Sys2Proof.Machine.execTest s
  | .abort => Sys2Proof.Machine.execAbort s
  | .restart => Sys2Proof.Machine.execRestart s
  | .channelSample ch resistance => Sys2Proof.Machine.execChannelSample ch resistance s
  | .lineVoltageSample ln millivolts => Sys2Proof.Machine.execLineVoltageSample ln millivolts s
  | .loopCurrentSample ln microamps => Sys2Proof.Machine.execLoopCurrentSample ln microamps s
  | .yieldDemandGapEnd => Sys2Proof.Machine.execYieldDemandGapEnd s
  | .supplyFailure => Sys2Proof.Machine.execSupplyFailure s

end Sys2Proof.Machine
end

