-- ==== Sys2Proof/Machine/Flags.lean ====
section
/-! DEFINITION. What the part shows: hook relays, the trouble relay and the lamps, each a function of the state, so that each
follows its record at once (R22, R70, R146, R147; log entry 16). -/

namespace Sys2Proof.Machine

/-- The hook relay of a line is closed in HELD and open in every other state (section 3.1). -/
def State.relayClosed (s : State) (l : LineNo) : Bool := (s.line l).state = .held

/-- A channel's lamp (R22). -/
def State.channelLamp (s : State) (c : ChannelNo) : Lamp :=
  if s.running then
    match (s.chan c).state with
    | .alarm => .steady
    | .fault => .flashing 500
    | .disabled | .normal | .confirming | .restoring => .dark
  else .dark

/-- A line's lamp (R70). -/
def State.lineLamp (s : State) (l : LineNo) : Lamp :=
  if s.running then
    match (s.line l).state with
    | .suspect | .faulted => .flashing 125
    | .held | .break => .steady
    | .occupied => .flashing 1000
    | .unfitted | .settling | .idle | .guard => .dark
  else .dark

/-- Whether any condition of the trouble list is active. -/
def State.anyActive (s : State) : Bool := s.trouble.list.toList.any (·.active)

/-- Whether any condition of the trouble list is unacknowledged. -/
def State.anyUnacknowledged (s : State) : Bool := s.trouble.list.toList.any (·.unacknowledged)

/-- The trouble relay is energised only when start is complete and no condition is active or unacknowledged (R146). -/
def State.troubleRelay (s : State) : Bool := s.running && !s.anyActive && !s.anyUnacknowledged

/-- The trouble lamp (R147). -/
def State.troubleLamp (s : State) : Lamp :=
  if s.running then
    if s.anyActive then .steady else if s.anyUnacknowledged then .flashing 500 else .dark
  else .dark

end Sys2Proof.Machine
end

