-- ==== Sys2Proof/WellFormed.lean ====
section
/-! DEFINITION. When a command's operands are ones the manual's event can carry. A command that is not well formed is still
taken; where its operands name nothing, the meaning gives it no effect (log entry 7). -/

namespace Sys2Proof

/-- A sequence number is 0 to 65535 (00_scope.md 5.3). -/
def seqOk (n : Nat) : Bool := n < 65536

/-- A heard entry's fields lie in their ranges (section 6.1): station 1 to 31, class one of the first three, kind ALARM or
RESTORE, event 100 to 399, group 00 to 99. -/
def HeardKey.ok (k : HeardKey) : Bool :=
  1 ≤ k.station && k.station ≤ 31 && k.cls.rank ≤ 2 && k.kind ≠ .status && 100 ≤ k.event && k.event ≤ 399 && k.group ≤ 99

/-- Well-formed commands: an image has 256 bytes (R151), a symbol lasts 40 ms or more, and a recognised DIAL, HANDSHAKE or ACK
ends after 500, 300 or 400 ms or more (R66). A port command's number may be any: the part answers one out of range. -/
def Instr.wellFormed : Instr → Bool
  | .imageReadEnd image => image.length = 256
  | .eligibleAtReached seq | .restEnd seq => seqOk seq
  | .heardEntryExpiry key => key.ok
  | .symbolReport _ _ duration => 40 ≤ duration
  | .dialEnd _ duration => 500 ≤ duration
  | .handshakeEnd _ duration => 300 ≤ duration
  | .ackEnd _ duration => 400 ≤ duration
  | .powerUp | .powerStable | .startPinLow | .startPinRelease | .imageReadTimeout | .channelBandQualified _
  | .confirmTimerExpiry _ | .restoreTimerExpiry _ | .windowEnd _ | .wiringFaultEntry _ | .wiringFaultBandChange _
  | .wiringFaultExit _ | .holdoffDeadline | .preemptWaitExpiry | .yieldDemandRepeat | .preemptSuccess
  | .preemptResponseEnd | .lineOnhookBandQualified _ | .settlingEnd _ | .deadRunLimit _ | .deadFaultRecovery _
  | .noLoopFaultEnd _ | .guardEnd _ | .currentBandQualified _ | .checkWindowEnd _ | .breakEnd _ | .intrusion _
  | .loopLoss _ | .dialRecognised _ _ | .busyReport _ _ _ | .handshakeRecognised _ _ | .ackRecognised _ _
  | .silenceReport _ | .toneRequestDone | .takeGrant | .dialDeadline | .dialGapEnd | .handshakeDeadline | .leadInDue
  | .blockSymbolGapEnd | .ackDeadline | .pauseEnd | .clashEnd | .awaitingAckDeadline _ | .testTimerExpiry
  | .characterReceived _ _ | .answerEnd | .ident | .status | .queue | .hist _ | .lines | .chan _ | .trouble | .ack
  | .bypass _ | .unbypass _ | .test | .abort | .restart | .channelSample _ _ | .lineVoltageSample _ _
  | .loopCurrentSample _ _ | .yieldDemandGapEnd | .supplyFailure => true

end Sys2Proof
end

