-- ==== Sys2Proof/Safety.lean ====
section
/-! DEFINITION. What a sound state of the part is: the bounds and the agreements between records that the manual states for every
moment, and what a start leaves. The statements about every step are made in these terms. -/

namespace Sys2Proof.Machine

/-! ### Working settings (sections 1.1 and 8.1) -/

/-- The settings of channel `c` lie in the ranges of section 1.1, its gate naming another channel in CONTACT mode. -/
def ChannelSettings.inRange (modes : ChannelNo → Mode) (c : ChannelNo) (x : ChannelSettings) : Prop :=
  x.cls.rank ≤ 2 ∧ 100 ≤ x.event ∧ x.event ≤ 299 ∧ x.group ≤ 99 ∧ 20 ≤ x.debounce ∧ x.debounce ≤ 2000
    ∧ x.debounce % 10 = 0 ∧ x.confirm ≤ 300 ∧ x.restore ≤ 300 ∧ 1 ≤ x.window ∧ x.window ≤ 3600 ∧ 1 ≤ x.windows
    ∧ x.windows ≤ 10 ∧ 1 ≤ x.setHigh ∧ x.setHigh ≤ 9999 ∧ x.setLow ≤ x.setHigh
    ∧ ∀ g, x.gate = some g → g ≠ c ∧ modes g = .contact

/-- The working settings lie in the ranges of section 8.1, and no route names a destination that is none. -/
def Settings.inRange (x : Settings) : Prop :=
  1 ≤ x.station ∧ x.station ≤ 31 ∧ x.account ≤ 9999
    ∧ (∀ d, (x.dest d).length ≤ 20)
    ∧ (∀ k d, ((x.routes.get k).first = some d ∨ (x.routes.get k).second = some d) → x.dest d ≠ [])
    ∧ (∀ k, 1 ≤ x.maxima.get k ∧ x.maxima.get k ≤ 15)
    ∧ 1 ≤ x.restMinutes ∧ x.restMinutes ≤ 60 ∧ 30 ≤ x.coverage ∧ x.coverage ≤ 600
    ∧ x.shared.length = 8 ∧ (∀ g ∈ x.shared, g ≤ 99) ∧ x.testHours ≤ 168
    ∧ ∀ c : ChannelNo, (x.channels[c.val]'c.isLt).inRange (fun g => (x.channels[g.val]'g.isLt).mode) c

/-! ### Counts (section 5.4) -/

/-- Every count of a channel is within its maximum (section 1.1). -/
def Channel.bounded (ch : Channel) : Prop :=
  ch.pulses ≤ 65535 ∧ ch.hold ≤ 65535 ∧ ch.consecutive ≤ 10 ∧ ch.peak ≤ 9999 ∧ ch.transients ≤ 255

/-- Every count of the part is within its maximum, and the working settings, which bound some of them, are in range. -/
def State.bounded (s : State) : Prop :=
  s.settings.inRange ∧ (∀ c, (s.chan c).bounded)
    ∧ (∀ l, (s.line l).seizes ≤ 65535 ∧ (s.line l).collisions ≤ 65535 ∧ (s.line l).garbled ≤ 65535)
    ∧ (∀ r ∈ s.queue.reports, r.contention ≤ 15 ∧ r.attempts ≤ s.settings.maxima.get r.matter.cls)
    ∧ (∀ e ∈ s.call.batch, e.sends ≤ 4) ∧ (∀ t0 l rec, s.access.state = .preempt t0 l rec → rec.demands ≤ 3)
    ∧ s.queue.overflow ≤ 65535 ∧ s.loader.clampCount ≤ 255
    ∧ (∀ c, (s.cond c).occurrences ≤ 255) ∧ s.trouble.missedTests ≤ 255

/-! ### The report queue (chapter 2) -/

/-- The queue holds at most 32 reports, in queue order, each with a number of its own that the counter can give; the history
ring holds at most 64 entries (R28, R29, R34, R48). -/
def State.queueSound (s : State) : Prop :=
  s.queue.reports.length ≤ 32
    ∧ (s.queue.reports.map (·.seq)).Nodup
    ∧ (∀ r ∈ s.queue.reports, r.seq < 65536)
    ∧ s.queue.counter < 65536
    ∧ s.queue.reports.Pairwise (fun a b => notAfter a.matter b.matter = true)
    ∧ s.queue.history.length ≤ 64

/-! ### Lines and the tone output (chapter 3) -/

/-- A line is taken while it is HELD or in BREAK. -/
def LineState.taken (st : LineState) : Bool := st = .held || st = .break

/-- What each state of a line implies for the rest of its record (sections 3.1, 3.4 and 3.5). -/
def Line.sound (ln : Line) : Prop :=
  (ln.state = .unfitted ↔ ln.fitted = false)
    ∧ (ln.holder = none ↔ ln.state.taken = false)
    ∧ (ln.state = .break → ln.holder = some .access)
    ∧ (ln.checkStart.isSome → ln.state = .held)
    ∧ (ln.qualifiedCurrent.isSome ↔ ln.state = .held)
    ∧ (ln.sampledCurrent.isSome → ln.state = .held)
    ∧ (ln.sampledOnhook.isSome ∨ ln.qualifiedOnhook.isSome ∨ ln.deadRunStart.isSome → ln.state ≠ .held ∧ ln.state ≠ .unfitted)
    ∧ (ln.occupant.isSome → ln.state = .occupied)
    ∧ (ln.noYield = true → ln.state = .occupied ∨ ln.state = .guard)
    ∧ (ln.faultCause.isSome ↔ ln.state = .faulted)

/-- Every line is sound, at most one is HELD or in BREAK, and tones sound and wait on a HELD line only (R59, R68). -/
def State.linesSound (s : State) : Prop :=
  (∀ l, (s.line l).sound)
    ∧ (∀ l m, (s.line l).state.taken = true → (s.line m).state.taken = true → l = m)
    ∧ (∀ p, s.tone.sounding = some p → (s.line p.1.line).state = .held)
    ∧ (∀ r ∈ s.tone.waiting, (s.line r.line).state = .held)

/-! ### The call and the acquisition (chapters 4 and 5) -/

/-- A state a call can be paused from (R112). -/
def CallState.pausable : CallState → Bool
  | .dialtoneWait | .dialling | .awaitHandshake | .sendingBlock | .awaitAck => true
  | .idle | .paused | .closing => false

/-- The batch holds at most four reports and is empty in CE_IDLE; every IN_CALL report is in it; a call has a line and a
destination, and leaves no acquisition in progress; every report of the queue has a route (R38, R44, R98, R167). -/
def State.callSound (s : State) : Prop :=
  s.call.batch.length ≤ 4
    ∧ (s.call.state = .idle → s.call.batch = [])
    ∧ (∀ r ∈ s.queue.reports, r.state = .inCall → r.seq ∈ s.call.batch.map (·.seq))
    ∧ (s.call.state ≠ .idle → s.call.line.isSome ∧ s.call.dest.isSome ∧ s.access.state = .idle)
    ∧ (∀ p, s.call.pause = some p → p.from_.pausable = true)
    ∧ (∀ r ∈ s.queue.reports, s.settings.hasRoute r.matter.cls = true)

/-- The line an access state holds for the acquisition, the state that line is in, and whether its check window is open (sections
4.1 and 3.5, R60, R87, R90, R91). -/
def AccessState.holds : AccessState → Option (LineNo × LineState × Bool)
  | .check _ l => some (l, .held, true)
  | .preempt _ l rec => some (l, if rec.phase = .demanding then .held else .break, false)
  | .granted _ l _ _ => some (l, .held, false)
  | .idle | .wait _ _ _ | .holdoff _ _ _ _ _ => none

/-- The access controller is the holder of the line its state holds, and of no other; the call engine is the holder of its line
for as long as it is in a call, and of no other, and that line is HELD with no check window open (R59, R97, R108). -/
def State.holdersSound (s : State) : Prop :=
  (∀ l, (s.line l).holder = some .access ↔ ∃ st w, s.access.state.holds = some (l, st, w))
    ∧ (∀ l st w, s.access.state.holds = some (l, st, w) → (s.line l).state = st ∧ (s.line l).checkStart.isSome = w)
    ∧ (∀ l, (s.line l).holder = some .call ↔ s.call.line = some l ∧ s.call.state ≠ .idle)
    ∧ (∀ l, (s.line l).holder = some .call →
        s.call.state ≠ .closing ∧ (s.line l).state = .held ∧ (s.line l).checkStart = none)

/-! ### The peer listener (chapter 6) -/

/-- The heard table holds at most 16 entries, oldest first and alike in no two, none of them this station's; an awaited
acknowledgement names an entry of the table or nothing (R128, R129). -/
def State.heardSound (s : State) : Prop :=
  s.listener.heard.length ≤ 16
    ∧ (s.listener.heard.map (·.key)).Nodup
    ∧ (∀ e ∈ s.listener.heard, e.key.ok = true ∧ e.key.station ≠ s.settings.station ∧ e.heard ≤ s.clock)
    ∧ s.listener.heard.Pairwise (fun a b => a.heard ≤ b.heard)
    ∧ ∀ l a k, (s.decoder l).awaiting = some a → a.names = some k → k ∈ s.listener.heard.map (·.key)

/-! ### The maintenance port (chapter 9) -/

/-- The buffer holds at most 64 characters, and no line waits unless an answer is being sent (R161, R162). -/
def State.portSound (s : State) : Prop :=
  s.port.held ≤ 64 ∧ (s.port.answer = none → s.port.waiting = [])

/-! ### The supply and the start pin (chapter 8) -/

/-- A part past the beginning of a start has its supply up and its start pin high, for the loss of either begins a start (R151,
R158). -/
def State.startSound (s : State) : Prop := s.phase ≠ .starting → s.supply = .up ∧ s.pinLow = false

/-! ### Everything at once -/

/-- A sound state: all of the above. -/
def State.sound (s : State) : Prop :=
  s.bounded ∧ s.queueSound ∧ s.linesSound ∧ s.holdersSound ∧ s.callSound ∧ s.heardSound ∧ s.portSound ∧ s.startSound

/-! ### A start (chapter 8) -/

/-- What the beginning of a start leaves of a state: every block abandons its work, every relay and lamp is off, the clock is held at
0 and the port's buffer is empty; the settings stand until the image is read (R159). -/
def InStart (s t : State) : Prop :=
  t.phase = .starting ∧ t.clock = 0 ∧ t.troubleRelay = false ∧ t.troubleLamp = .dark
    ∧ (∀ l, t.relayClosed l = false ∧ t.lineLamp l = .dark) ∧ (∀ c, t.channelLamp c = .dark)
    ∧ t.queue.reports = [] ∧ t.queue.history = [] ∧ t.tone = ⟨none, []⟩
    ∧ t.access.state = .idle ∧ t.call.state = .idle ∧ t.call.batch = []
    ∧ t.listener.heard = [] ∧ (∀ l, t.decoder l = ⟨none, none, none⟩) ∧ t.listener.clashEnd = none
    ∧ (∀ c, (t.cond c).active = false ∧ (t.cond c).unacknowledged = false ∧ (t.cond c).pending = none)
    ∧ t.trouble.testExpiry = none
    ∧ t.port.waiting = [] ∧ t.port.receiving = ⟨[], false⟩ ∧ t.port.answer = none
    ∧ t.now = s.now ∧ t.unique = s.unique ∧ t.settings = s.settings ∧ t.loader = s.loader
    ∧ t.choices = s.choices ∧ t.pending = s.pending

/-- The state `t` follows the end of an image read, complete or not, in `s`. -/
def ImageReadEnded (s t : State) : Prop :=
  ∃ since, s.phase = .reading since ∧
    ((∃ image : List Byte, image.length = 256 ∧ s.now ≤ since + 200 ∧ exec (.imageReadEnd image) s = .next t)
      ∨ (since + 200 ≤ s.now ∧ exec .imageReadTimeout s = .next t))

/-- A band has been sampled on a watched channel for its debounce time and is not yet the qualified band (R2). -/
def BandHeld (c : ChannelNo) (b : Band) (s : State) : Prop :=
  s.running = true ∧ (s.chanSettings c).mode ≠ .disabled ∧ (s.chan c).sampled = b ∧ (s.chan c).qualified ≠ b
    ∧ (s.chan c).bandSince + (s.chanSettings c).debounce ≤ s.now

/-- A CONTACT channel in ALARM with its report, from NORMAL or CONFIRMING (R5). -/
def inAlarm (c : ChannelNo) (b : Band) (s : State) : State :=
  handChannel c .alarm none (s.setChan c fun ch =>
    { ch with qualified := b, state := .alarm, confirmTimer := .stopped, alarmEntry := some s.clock })

/-- A CONTACT channel back in NORMAL, with the restore report if restore reporting is on; its value is the alarm duration,
limited to 9999 (R7). -/
def restored (c : ChannelNo) (b : Band) (s : State) : State :=
  let s1 := s.setChan c fun ch => { ch with qualified := b, state := .normal, restoreTimer := .stopped }
  if (s.chanSettings c).restoreReporting then
    handChannel c .restoreValue (some (min (s.clock - (s.chan c).alarmEntry.getD 0) 9999)) s1
  else s1

/-- The condition of a channel's fault band (section 7.1). -/
def faultCondition (c : ChannelNo) (b : Band) : Condition := if b = .short then .channelShort c else .channelOpen c

/-- The gate of a channel is open: it has none, does not use it, or its gate channel is ACTIVE and not in FAULT (R10). -/
def gateIsOpen (c : ChannelNo) (s : State) : Bool :=
  (s.chanSettings c).mode ≠ .flow ||
    match (s.chanSettings c).gate with
    | none => true
    | some g => (s.chan g).qualified = .active && (s.chan g).state ≠ .fault

/-! ### The report queue's bookkeeping (chapter 2) -/

/-- What the queue keeps of each report from entry to removal, in queue order. -/
def State.owed (s : State) : List (Nat × Matter) := s.queue.reports.map fun r => (r.seq, r.matter)

/-- The history with one entry written last, the oldest giving way when 64 are held (R48). -/
def State.historyWith (s : State) (e : HistoryEntry) : List HistoryEntry :=
  if s.queue.history.length < 64 then s.queue.history ++ [e]
  else s.queue.history.drop (s.queue.history.length - 63) ++ [e]

/-- The report that ought to be head: the first in queue order that is QUEUED, whose eligible-at is not later than now, whose mask names
a fitted line and whose class has a route (R30). -/
def State.headFirst (s : State) : Option Nat :=
  (s.queue.reports.find? fun x => decide (x.state = .queued ∧ x.eligibleAt ≤ s.clock
    ∧ (∃ l, (s.line l).fitted = true ∧ (s.settings.masks.get x.matter.cls).getLsbD l.val = true)
    ∧ (s.settings.routes.get x.matter.cls).first ≠ none)).map (·.seq)

/-- The head decided anew: where that changes it, the access controller is told while the call engine is in CE_IDLE (R30, R38). -/
def State.headAnew (s : State) : State :=
  let decided : State := { s with queue := { s.queue with head := s.headFirst } }
  if s.headFirst = s.queue.head then s else if s.call.state = .idle then accessHeadChange decided else decided

/-- A report of the queue that an eviction may take: not IN_CALL (R35). -/
def evictable (r : Report) : Bool := r.state ≠ .inCall

/-- A report handed to the queue is refused: its class has a route, no peer has covered it, the queue is full, and no report that an
eviction may take has a greater rank (R36). -/
def Refused (m : Matter) (s : State) : Prop :=
  s.settings.hasRoute m.cls = true ∧ consult m s = none ∧ 32 ≤ s.queue.reports.length
    ∧ ∀ r ∈ s.queue.reports, evictable r = true → r.matter.cls.rank ≤ m.cls.rank

/-- A condition's report is refused: the refusal is counted and sets the mark, the report becomes the condition's pending report,
pending since now and behind those refused before it, and the first refusal makes QUEUE_OVERFLOW active (R36, R141, R142). -/
def refusedPending (c : Condition) (m : Matter) (s : State) : State :=
  let q := s.queue.newSeq
  let pended := s.setCond c fun x => { x with pending := some ⟨m, s.clock, s.trouble.refusals⟩ }
  let t : State := { s with
    queue := { s.queue with
      counter := if q = 65535 then 0 else q + 1, history := s.historyWith ⟨q, m, .dropped, s.clock⟩
      overflow := min (s.queue.overflow + 1) 65535, overflowMark := true }
    trouble := { pended.trouble with refusals := s.trouble.refusals + 1 } }
  if s.queue.overflowMark then t else tellTrouble .queueOverflow true t

/-! ### Lines (chapters 3 and 4) -/

/-- A line of the head's class is permitted: fitted, and named by the class line mask (R74). -/
def Permitted (s : State) (k : ReportClass) (l : LineNo) : Prop :=
  (s.line l).fitted = true ∧ (s.settings.masks.get k).getLsbD l.val = true

/-- No line but `l` is HELD or in BREAK (R59). -/
def OthersFree (s : State) (l : LineNo) : Prop := ∀ m, m ≠ l → (s.line m).state.taken = false

/-- A candidate for preemption by a head of a class (R89). -/
def Candidate (s : State) (k : ReportClass) (l : LineNo) : Prop :=
  Permitted s k l ∧ (s.line l).state = .occupied ∧ (s.line l).noYield = false
    ∧ ∀ o, (s.line l).occupant = some o → k.rank < o.rank

/-- Line `l` is a permitted one for the report that is head (R74). -/
def PermittedForHead (s : State) (l : LineNo) : Prop := ∃ r, s.headReport = some r ∧ Permitted s r.matter.cls l

/-- The state `t` follows a request that names a class to line `l`: only an OCCUPIED line whose occupant class it changes takes it, and
the access controller is told when the line is one of the head's permitted lines (R58, R78). -/
def TakesOccupant (l : LineNo) (k : ReportClass) (s t : State) : Prop :=
  let told := s.setLine l fun ln => { ln with occupant := some k }
  ((s.line l).state ≠ .occupied ∨ (s.line l).occupant = some k → t = s)
    ∧ ((s.line l).state = .occupied → (s.line l).occupant ≠ some k →
        (¬ PermittedForHead s l → t = told) ∧ (PermittedForHead s l → t = laterPreemptionTest told))

/-- Line `l` of `t` after a seize accepted in `s`: HELD by the access controller with current sensing begun, the seize counted, the
occupant forgotten and the receiver begun anew, what it was hearing kept for this instant (R52, R54, R59, R67, R69; log entry 9). -/
def SeizedLine (check : Bool) (l : LineNo) (s t : State) : Prop :=
  t.line l =
    { s.line l with
      state := .held, enteredAt := s.now, periodOver := false
      sampledOnhook := none, qualifiedOnhook := none, deadRunStart := none
      sampledCurrent := none, currentSince := s.now, qualifiedCurrent := some .none, qualifiedCurrentSince := s.now
      sharedFromSole := false, lossGiven := false
      holder := some .access, checkStart := if check then some s.now else none
      dialHeard := false, handshakeHeard := false, ackHeard := false, receiverSince := s.now
      formerReceiver := some ((s.line l).endingReceiver s.now), toSilence := false
      occupant := none, noYield := false, seizes := min ((s.line l).seizes + 1) 65535
      garbled := if (s.decoder l).stream.isSome then min ((s.line l).garbled + 1) 65535 else (s.line l).garbled }
    ∧ (t.decoder l).stream = none ∧ (∀ m, m ≠ l → t.line m = s.line m ∧ t.decoder m = s.decoder m)

/-- What a change of the access context and of lines leaves alone: the queue, the call, the trouble unit, and all that is not a
line's, a decoder's or the tone output's. -/
def OnlyAccess (s t : State) : Prop :=
  t.now = s.now ∧ t.phase = s.phase ∧ t.settings = s.settings ∧ t.channels = s.channels ∧ t.queue = s.queue
    ∧ t.call = s.call ∧ t.trouble = s.trouble ∧ t.listener.heard = s.listener.heard ∧ t.port = s.port

/-- The receiver of a line hears a sound of a length that ends or is recognised now: the part's own tone has not been sounding on
the line, and the receiver was classifying when the sound began, or the receiver before a change of state that falls at this
instant was (R66 to R68; log entry 9). -/
def Hears (l : LineNo) (time : Nat) (s : State) : Prop :=
  s.running = true ∧ (s.line l).state ≠ .unfitted
    ∧ ((s.line l).receiverSince + time ≤ s.now
        ∨ ∃ f, (s.line l).formerReceiver = some f ∧ f.ended = s.now ∧ f.since + time ≤ s.now)
    ∧ ∀ p, s.tone.sounding = some p → p.1.line = l → s.now + p.1.duration ≤ p.2

/-- The events that begin or end a start, or an answer after which one may begin (R151, R158, R168). -/
def startEvent : Instr → Bool
  | .powerUp | .powerStable | .startPinLow | .startPinRelease | .imageReadEnd _ | .imageReadTimeout | .supplyFailure
  | .answerEnd => true
  | _ => false

/-- The channel an event of the input monitor concerns. -/
def channelEvent : Instr → Option ChannelNo
  | .channelSample c _ | .channelBandQualified c | .confirmTimerExpiry c | .restoreTimerExpiry c | .windowEnd c
  | .wiringFaultEntry c | .wiringFaultBandChange c | .wiringFaultExit c => some c
  | _ => none

/-- The events by which a bypass setting may change: BYPASS and UNBYPASS, and what takes a typed line. -/
def bypassEvent : Instr → Bool
  | .bypass _ | .unbypass _ | .characterReceived _ _ => true
  | _ => false

/-- The port's own events and commands. -/
def portEvent : Instr → Bool
  | .characterReceived _ _ | .ident | .status | .queue | .hist _ | .lines | .chan _ | .trouble | .ack | .bypass _
  | .unbypass _ | .test | .abort | .restart => true
  | _ => false

/-- The events the part takes of itself (log entry 2). -/
def ownEvent : Instr → Bool
  | .powerStable | .imageReadTimeout | .channelBandQualified _ | .confirmTimerExpiry _ | .restoreTimerExpiry _
  | .windowEnd _ | .wiringFaultEntry _ | .wiringFaultBandChange _ | .wiringFaultExit _ | .eligibleAtReached _
  | .restEnd _ | .holdoffDeadline | .preemptWaitExpiry | .yieldDemandRepeat | .yieldDemandGapEnd | .preemptSuccess
  | .preemptResponseEnd | .lineOnhookBandQualified _ | .settlingEnd _ | .deadRunLimit _ | .deadFaultRecovery _
  | .noLoopFaultEnd _ | .guardEnd _ | .currentBandQualified _ | .checkWindowEnd _ | .breakEnd _ | .intrusion _
  | .loopLoss _ | .toneRequestDone | .takeGrant | .dialDeadline | .dialGapEnd | .handshakeDeadline | .leadInDue
  | .blockSymbolGapEnd | .ackDeadline | .pauseEnd | .clashEnd | .awaitingAckDeadline _ | .heardEntryExpiry _
  | .testTimerExpiry | .answerEnd => true
  | .powerUp | .startPinLow | .startPinRelease | .imageReadEnd _ | .symbolReport _ _ _ | .dialRecognised _ _
  | .dialEnd _ _ | .busyReport _ _ _ | .handshakeRecognised _ _ | .handshakeEnd _ _ | .ackRecognised _ _ | .ackEnd _ _
  | .silenceReport _ | .characterReceived _ _ | .ident | .status | .queue | .hist _ | .lines | .chan _ | .trouble
  | .ack | .bypass _ | .unbypass _ | .test | .abort | .restart | .channelSample _ _ | .lineVoltageSample _ _
  | .loopCurrentSample _ _ | .supplyFailure => false

end Sys2Proof.Machine
end

