-- ==== Sys2Proof/Certificates/Slice0/Obligations.lean ====
section
/-! DEFINITION. The statements for the provers, by chapter of the manual. A duration is in milliseconds; `s.clock` is the unit clock
in seconds. -/

section
open Sys2Proof Sys2Proof.Machine

/-! ### The step -/

/-- The step takes the command at the front of the queue (log entry 1). -/
def Obligations.Step_takes_front_command : Prop :=
  ∀ (c : Instr) (s : State), step { s with pending := c :: s.pending } = exec c s

/-- With no command waiting, a millisecond passes when no event of the part's own has fallen due; when any has, the step takes one of
those that have (the model's choice: log entry 2). -/
def Obligations.Step_with_nothing_waiting : Prop :=
  ∀ s : State, s.pending = [] →
    ((∀ i, ownEvent i = true → due i s = false) → step s = .next { s with now := s.now + 1 })
      ∧ ∀ j, ownEvent j = true → due j s = true →
          ∃ i, ownEvent i = true ∧ due i s = true ∧ step s = exec i { s with choices := s.choices + 1 }

/-- Every command completes in every state, for the manual gives the part no event that stops it; an event of the part's own that
has not fallen due has no effect (the model's choice: log entry 7). -/
def Obligations.Every_command_completes : Prop :=
  (∀ (i : Instr) (s : State), ∃ t, exec i s = .next t)
    ∧ ∀ (i : Instr) (s : State), ownEvent i = true → due i s = false → exec i s = .next s

/-- What no command touches, and what only a start does: the unique number, the free choices and the waiting commands; the
working settings between image reads (R157); the clock, the supply, the start pin, the start itself and what IDENT shows of the
image. -/
def Obligations.Settings_stand_between_starts : Prop :=
  ∀ (i : Instr) (s t : State), exec i s = .next t →
    t.unique = s.unique ∧ t.choices = s.choices ∧ t.pending = s.pending
      ∧ ((∀ image, i ≠ .imageReadEnd image) → i ≠ .imageReadTimeout → t.settings = s.settings ∧ t.now = s.now)
      ∧ (startEvent i = false →
          t.supply = s.supply ∧ t.pinLow = s.pinLow ∧ t.phase = s.phase ∧ t.startCause = s.startCause ∧ t.loader = s.loader)

/-- Which commands touch a channel's record, the heard table and the port: an event of one channel leaves every other channel
as it is; no other command but a bypass request changes any field of a channel but its last queued kind, which a re-assert may
set (R19, R23); no command but a report of a tone or an expiry changes the heard table; none but the port's own changes the
port. -/
def Obligations.Frame_of_channels_heard_and_port : Prop :=
  ∀ (i : Instr) (s t : State), exec i s = .next t → startEvent i = false →
    (∀ c d, channelEvent i = some c → d ≠ c → t.chan d = s.chan d)
      ∧ (channelEvent i = none → bypassEvent i = false → (∀ l f, i ≠ .ackRecognised l f) → t.channels = s.channels)
      ∧ (∀ l f, i = .ackRecognised l f → ∀ d, { t.chan d with lastKind := (s.chan d).lastKind } = s.chan d)
      ∧ ((∀ l p d, i ≠ .symbolReport l p d) → (∀ l f, i ≠ .ackRecognised l f) → (∀ k, i ≠ .heardEntryExpiry k) →
          t.listener.heard = s.listener.heard)
      ∧ (portEvent i = false → t.port = s.port)

/-! ### Configuration image and start (chapter 8) -/

/-- POWER_UP, SUPPLY_FAILURE and START_PIN_LOW begin a start, whatever the part was doing; that POWER_UP restarts the 100 ms count from
any supply state, that START_PIN_LOW begins a start also in a start, and that without a supply it has no effect, are the model's
choices (DESIGN CHOICE, log entry 8). The image read begins when the supply has held its working level for 100 ms and the start
pin is high, and at the pin's release when the supply is up; its beginning sets the clamp count to 0 (R151, R157 to R159). -/
def Obligations.Start_and_image_read_begin : Prop :=
  (∀ s : State,
     (∃ t, exec .powerUp s = .next t ∧ InStart s t ∧ t.supply = .rising s.now ∧ t.startCause = .powerUp ∧ t.pinLow = s.pinLow)
       ∧ (∃ t, exec .supplyFailure s = .next t ∧ InStart s t ∧ t.supply = .down ∧ t.startCause = .powerUp ∧ t.pinLow = s.pinLow)
       ∧ ∃ t, exec .startPinLow s = .next t ∧
           (if s.supply = .down then t = s
            else InStart s t ∧ t.supply = s.supply ∧ t.startCause = .startPin ∧ t.pinLow = true))
    ∧ ∀ s : State,
        (∀ since, s.supply = .rising since → since + 100 ≤ s.now →
          exec .powerStable s = .next (if s.pinLow then { s with supply := .up } else
            { s with supply := .up, phase := .reading s.now, loader := { s.loader with clampCount := 0 } }))
          ∧ (s.pinLow = true →
              exec .startPinRelease s = .next (if s.phase = .starting ∧ s.supply = .up then
                { s with pinLow := false, phase := .reading s.now, loader := { s.loader with clampCount := 0 } }
              else { s with pinLow := false }))

/-- The image is checked by its magic and its checksum; the outcome decides the working settings, what IDENT shows and whether
CONFIG_DEFAULTED is active; a memory that has not answered in 200 ms counts as absent (R151, R152, R153). -/
def Obligations.Image_decides_settings : Prop :=
  ∀ (s : State) (since : Nat), s.phase = .reading since →
    (∀ image : List Byte, image.length = 256 → s.now ≤ since + 200 →
      ∃ t, exec (.imageReadEnd image) s = .next t ∧ t.phase = .running ∧ t.now = 0
        ∧ if byteAt image 0 = 165 ∧ byteAt image 1 = 72 then
            t.loader = ⟨byteAt image 2, (settingsOf image).changes⟩
              ∧ if ((List.range 254).map (byteAt image)).sum % 65536 = 256 * byteAt image 254 + byteAt image 255 then
                  t.settings = (settingsOf image).value ∧ (t.cond .configDefaulted).active = false
                else
                  t.settings = { (settingsOf image).value with fitted := 0 } ∧ (t.cond .configDefaulted).active = true
          else t.settings = defaultSettings ∧ t.loader = ⟨0, 0⟩ ∧ (t.cond .configDefaulted).active = true)
      ∧ (since + 200 ≤ s.now →
          ∃ t, exec .imageReadTimeout s = .next t ∧ t.phase = .running ∧ t.now = 0
            ∧ t.settings = defaultSettings ∧ t.loader = ⟨0, 0⟩ ∧ (t.cond .configDefaulted).active = true)

/-- The records every block begins with at the end of the image read (R24, R49, R53, R71, R72, R122, R137, R150). The access context is
that of R72 but where the START report is head at once: the acquisition has then begun, with AC_WAIT, T0 and wait-since 0, by the
head change that R30 and R73 tell of (DEDUCED, log entry 21). -/
def Obligations.Records_after_start : Prop :=
  ∀ s t : State, ImageReadEnded s t →
    (∀ c, let set := t.chanSettings c
      t.chan c =
        { sampled := .normal, bandSince := 0, qualified := .normal
          state := if set.mode = .disabled then .disabled else .normal
          faultBand := none, alarmMemory := false, alarmEntry := none, confirmTimer := .stopped, restoreTimer := .stopped
          pulses := 0, windowEnd := if set.mode = .flow ∨ set.mode = .count then some (1000 * set.window) else none
          hold := 0, consecutive := 0, peak := 0, transients := 0, lastKind := .restore, bypass := false })
      ∧ (∀ l, (t.line l).fitted = t.settings.fitted.getLsbD l.val
          ∧ (t.line l).state = (if t.settings.fitted.getLsbD l.val then .settling else .unfitted)
          ∧ (t.line l).enteredAt = 0 ∧ (t.line l).sampledOnhook = none ∧ (t.line l).qualifiedOnhook = none
          ∧ (t.line l).deadRunStart = none ∧ (t.line l).sampledCurrent = none ∧ (t.line l).qualifiedCurrent = none
          ∧ (t.line l).faultCause = none ∧ (t.line l).noLoop = false ∧ (t.line l).holder = none
          ∧ (t.line l).checkStart = none ∧ (t.line l).dialHeard = false ∧ (t.line l).occupant = none
          ∧ (t.line l).noYield = false ∧ (t.line l).seizes = 0 ∧ (t.line l).collisions = 0 ∧ (t.line l).garbled = 0)
      ∧ t.access = ⟨if t.queue.head = none then .idle else .wait 0 0 false, 0⟩
      ∧ t.call = freshCall ∧ t.tone = ⟨none, []⟩ ∧ t.listener = freshListener ∧ t.port = freshPort
      ∧ (∀ c, c ≠ .configDefaulted → t.cond c = ⟨false, false, none, 0, none⟩)
      ∧ t.trouble.testExpiry = (if t.settings.testHours = 0 then none else some (3600 * t.settings.testHours))
      ∧ t.trouble.missedTests = 0 ∧ t.queue.overflow = 0 ∧ t.queue.overflowMark = false
      ∧ t.clock = 0

/-- The START report is the queue's first report, number 0, carrying the start cause; the begin report of CONFIG_DEFAULTED
follows it in local-only operation; without a route for class TROUBLE both go to the history (R49, R150, R158). -/
def Obligations.Start_report_comes_first : Prop :=
  ∀ s t : State, ImageReadEnded s t →
    let cause := match s.startCause with
      | .powerUp => 1
      | .startPin => 2
      | .restart => 3
    let start : Matter := ⟨.trouble, .status, 310, 0, .unit, some cause, 0⟩
    let defaulted : Matter := ⟨.trouble, .alarm, 370, 0, .unit, none, 0⟩
    let handed : List (Nat × Matter) :=
      if (t.cond .configDefaulted).active ∧ t.settings.troubleReporting then [(0, start), (1, defaulted)] else [(0, start)]
    if (t.settings.routes.get .trouble).first = none then
      t.queue.reports = [] ∧ t.queue.history = handed.map fun p => ⟨p.1, p.2, .notRouted, 0⟩
    else
      t.queue.history = [] ∧ t.queue.reports.map (fun r => (r.seq, r.matter, r.state)) = handed.map fun p => (p.1, p.2, .queued)

/-- Every field of the image: numbers outside their ranges become the nearest end, and a group above 99 becomes 00; a route entry
becomes none when it is coded otherwise or names a destination that is none; a gate stands only when it names another channel in
CONTACT. A destination is read symbol by symbol up to its twentieth: the end code ends it and counts no clamp, an invalid symbol
ends it and counts one. The clamp count is the number of fields so changed, a set-point-low counting once for its range and once
for set-point-high, and saturates at 255 (R154 to R157, R170). -/
def Obligations.Image_fields_are_clamped : Prop :=
  (∀ image : List Byte,
     let v := (settingsOf image).value
     let byte := byteAt image
     let word (i : Nat) : Nat := 256 * byteAt image i + byteAt image (i + 1)
     let dest (i : Nat) := clampDest ((List.range 20).map fun k => byteAt image (i + k))
     let entry (b : Nat) : Option DestId :=
       if b = 1 ∧ v.dest1 ≠ [] then some .d1 else if b = 2 ∧ v.dest2 ≠ [] then some .d2
       else if b = 3 ∧ v.dest3 ≠ [] then some .d3 else none
     v.station = max 1 (min 31 (byte 3))
       ∧ v.account = min 9999 (word 4)
       ∧ (∀ l : LineNo, v.fitted.getLsbD l.val = (byte 6).testBit l.val)
       ∧ (∀ (k : ReportClass) (l : LineNo), v.maskNames k l = (byte (7 + k.rank)).testBit l.val)
       ∧ (∀ k : ReportClass, v.routes.get k = ⟨entry (byte (72 + 2 * k.rank)), entry (byte (73 + 2 * k.rank))⟩)
       ∧ (∀ k : ReportClass, v.maxima.get k = max 1 (min 15 (byte (82 + k.rank))))
       ∧ v.restMinutes = max 1 (min 60 (byte 87))
       ∧ v.coverage = max 30 (min 600 (word 88))
       ∧ v.shared = ((List.range 8).map fun k => if 99 < byte (90 + k) then 0 else byte (90 + k))
       ∧ v.testHours = min 168 (byte 98)
       ∧ v.troubleReporting = decide (byte 99 ≠ 0)
       ∧ v.dest1 = (dest 12).value ∧ v.dest2 = (dest 32).value ∧ v.dest3 = (dest 52).value
       ∧ (∀ c : ChannelNo,
           let o := 100 + 19 * c.val
           let x := v.channels[c.val]'c.isLt
           x.cls.rank = min 2 (byte o)
             ∧ x.event = max 100 (min 299 (word (o + 1)))
             ∧ x.group = (if 99 < byte (o + 3) then 0 else byte (o + 3))
             ∧ x.mode = (match byte (o + 4) with
                 | 1 => .contact
                 | 2 => .flow
                 | 3 => .count
                 | _ => .disabled)
             ∧ x.debounce = 10 * max 2 (min 200 (byte (o + 5)))
             ∧ x.confirm = min 300 (word (o + 6))
             ∧ x.restore = min 300 (word (o + 8))
             ∧ x.window = max 1 (min 3600 (word (o + 10)))
             ∧ x.windows = max 1 (min 10 (byte (o + 12)))
             ∧ x.setHigh = max 1 (min 9999 (word (o + 13)))
             ∧ x.setLow = min x.setHigh (word (o + 15))
             ∧ (∀ g : ChannelNo, x.gate = some g ↔
                 byte (o + 17) = g.val + 1 ∧ g ≠ c ∧ (v.channels[g.val]'g.isLt).mode = .contact)
             ∧ x.restoreReporting = decide (byte (o + 18) ≠ 0))
       ∧ let out (lo hi n : Nat) : Nat := if n < lo ∨ hi < n then 1 else 0
         let lost (b : Nat) (kept : Bool) : Nat := if b ≠ 0 ∧ kept = false then 1 else 0
         (settingsOf image).changes = min 255 (
           out 1 31 (byte 3) + out 0 9999 (word 4) + out 1 60 (byte 87) + out 30 600 (word 88) + out 0 168 (byte 98) + out 0 1 (byte 99)
             + (dest 12).changes + (dest 32).changes + (dest 52).changes
             + ((List.range 5).map fun k => out 1 15 (byte (82 + k))).sum
             + ((List.range 8).map fun k => out 0 99 (byte (90 + k))).sum
             + ((List.range 10).map fun k => lost (byte (72 + k)) (entry (byte (72 + k))).isSome).sum
             + (allChannels.map fun c =>
                 let o := 100 + 19 * c.val
                 let x := v.channels[c.val]'c.isLt
                 out 0 2 (byte o) + out 100 299 (word (o + 1)) + out 0 99 (byte (o + 3)) + out 0 3 (byte (o + 4))
                   + out 2 200 (byte (o + 5)) + out 0 300 (word (o + 6)) + out 0 300 (word (o + 8)) + out 1 3600 (word (o + 10))
                   + out 1 10 (byte (o + 12)) + out 1 9999 (word (o + 13)) + out 0 9999 (word (o + 15))
                   + out 0 x.setHigh (min 9999 (word (o + 15))) + out 0 1 (byte (o + 18)) + lost (byte (o + 17)) x.gate.isSome).sum))
    ∧ ∀ (codes rest : List Nat) (bad : Nat), (∀ b ∈ codes, b ≤ 10) → 10 < bad → bad ≠ 255 →
        let syms := codes.map fun b => if b = 10 then DialSym.pause else .digit (Fin.ofNat 10 b)
        clampDest (codes ++ 255 :: rest) = ⟨syms, 0⟩ ∧ clampDest (codes ++ bad :: rest) = ⟨syms, 1⟩ ∧ clampDest codes = ⟨syms, 0⟩

/-! ### Monitored inputs (chapter 1) -/

/-- A sample is sorted into its band; a change of sampled band restarts the counts. A DISABLED channel is not sampled; a line is
sensed for voltage with its relay open, where a change begins or ends a dead run, and for current in HELD, where SHARED may
become an intrusion only if it follows SOLE (R1, R51, R52, R64, R65). -/
def Obligations.Samples_are_sorted : Prop :=
  (∀ (c : ChannelNo) (r : Nat) (s : State), s.running = true →
     let b : Band := if r < 250 then .short else if r < 750 then .active else if r < 1500 then .normal else .opened
     exec (.channelSample c r) s = .next (if (s.chanSettings c).mode = .disabled ∨ (s.chan c).sampled = b then s
       else s.setChan c fun ch => { ch with sampled := b, bandSince := s.now }))
    ∧ (∀ (l : LineNo) (v : Nat) (s : State), s.running = true →
        let b : OnhookBand := if v < 3000 then .dead else if v < 19000 then .occupied else .idle
        exec (.lineVoltageSample l v) s = .next (
          if (s.line l).state = .held ∨ (s.line l).state = .unfitted ∨ (s.line l).sampledOnhook = some b then s
          else s.setLine l fun ln =>
            { ln with
              sampledOnhook := some b, onhookSince := s.now, deadRunStart := if v < 3000 then some s.now else none }))
    ∧ ∀ (l : LineNo) (i : Nat) (s : State), s.running = true →
        let b : CurrentBand := if i < 8000 then .none else if i < 18000 then .shared else .sole
        exec (.loopCurrentSample l i) s = .next (
          if (s.line l).state ≠ .held ∨ (s.line l).sampledCurrent = some b then s
          else s.setLine l fun ln =>
            { ln with
              sampledCurrent := some b, currentSince := s.now
              sharedFromSole := decide (ln.sampledCurrent = some .sole ∧ b = .shared), lossGiven := false })

/-- What a CONTACT channel makes of a change of qualified band, in every state and for every band. A confirm timer that expires
raises the alarm with the band ACTIVE, and a restore timer restores with the band NORMAL; with another band the expiry is held
(table of section 1.3, R5 to R8). That an alarm entry time a record has not counts as 0, in a state no run reaches, is the model's
choice (DESIGN CHOICE, log entry 18). -/
def Obligations.Contact_channel : Prop :=
  (∀ (c : ChannelNo) (b : Band) (s : State), (s.chanSettings c).mode = .contact → BandHeld c b s →
     let set := s.chanSettings c
     exec (.channelBandQualified c) s = .next (match (s.chan c).state, b with
       | .normal, .active =>
         if set.confirm = 0 then inAlarm c b s
         else s.setChan c fun ch =>
           { ch with qualified := b, state := .confirming, confirmTimer := .running (s.now + 1000 * set.confirm) }
       | .confirming, .normal => s.setChan c fun ch =>
           { ch with qualified := b, state := .normal, confirmTimer := .stopped, transients := min (ch.transients + 1) 255 }
       | .confirming, .active =>
         if (s.chan c).confirmTimer = .held then inAlarm c b s else s.setChan c fun ch => { ch with qualified := b }
       | .alarm, .normal =>
         if set.restore = 0 then restored c b s
         else s.setChan c fun ch =>
           { ch with qualified := b, state := .restoring, restoreTimer := .running (s.now + 1000 * set.restore) }
       | .restoring, .active => s.setChan c fun ch => { ch with qualified := b, state := .alarm, restoreTimer := .stopped }
       | .restoring, .normal =>
         if (s.chan c).restoreTimer = .held then restored c b s else s.setChan c fun ch => { ch with qualified := b }
       | _, _ => s.setChan c fun ch => { ch with qualified := b }))
    ∧ ∀ (c : ChannelNo) (ends : Nat) (s : State), s.running = true → (s.chanSettings c).mode = .contact → ends ≤ s.now →
        ((s.chan c).state = .confirming → (s.chan c).confirmTimer = .running ends →
            exec (.confirmTimerExpiry c) s = .next (if (s.chan c).qualified = .active then inAlarm c .active s
              else s.setChan c fun ch => { ch with confirmTimer := .held }))
          ∧ ((s.chan c).state = .restoring → (s.chan c).restoreTimer = .running ends →
              exec (.restoreTimerExpiry c) s = .next (if (s.chan c).qualified = .normal then restored c .normal s
                else s.setChan c fun ch => { ch with restoreTimer := .held }))

/-- A change of qualified band from NORMAL to ACTIVE in NORMAL or ALARM with the gate open counts a pulse, and alarms a COUNT
channel in NORMAL at set-point-high; every other change counts nothing (R9, R10, R14). -/
def Obligations.Pulses_counted_and_judged : Prop :=
  ∀ (c : ChannelNo) (b : Band) (s : State), (s.chanSettings c).mode = .flow ∨ (s.chanSettings c).mode = .count →
    (∀ g, (s.chanSettings c).gate = some g → g ≠ c) → BandHeld c b s →
    let set := s.chanSettings c
    let ch0 := s.chan c
    let n := min (ch0.pulses + 1) 65535
    ∃ t, exec (.channelBandQualified c) s = .next t
      ∧ if ch0.qualified = .normal ∧ b = .active ∧ (ch0.state = .normal ∨ ch0.state = .alarm) ∧ gateIsOpen c s = true then
          if set.mode = .count ∧ ch0.state = .normal ∧ n = set.setHigh then
            t = handChannel c .alarmValue (some set.setHigh) (s.setChan c fun ch =>
              { ch with qualified := b, state := .alarm, pulses := 0, windowEnd := some (s.now + 1000 * set.window) })
          else t = s.setChan c fun ch => { ch with qualified := b, pulses := n }
        else t = s.setChan c fun ch => { ch with qualified := b }

/-- The end of a window on a FLOW channel: the hold value, the next window, and the judgement of the rate in NORMAL and in ALARM. On
a COUNT channel in ALARM a hold value below set-point-low returns it to NORMAL, and its restore report carries the hold value
(R11 to R13, R15). That the next window end is counted from the last one, and not from the taking of its event, is the model's
reading of R11 (DEDUCED, log entry 20). -/
def Obligations.Windows_end : Prop :=
  (∀ (c : ChannelNo) (e : Nat) (s : State), s.running = true → (s.chanSettings c).mode = .flow →
     (s.chan c).windowEnd = some e → e ≤ s.now →
     let set := s.chanSettings c
     let ch0 := s.chan c
     let rate := min (ch0.pulses * 60 / set.window) 9999
     let more := ch0.consecutive + 1
     let upd (f : Channel → Channel) := s.setChan c fun ch =>
       f { ch with hold := ch.pulses, pulses := 0, windowEnd := some (e + 1000 * set.window) }
     exec (.windowEnd c) s = .next (match ch0.state with
       | .normal =>
         if rate < set.setHigh then upd fun ch => { ch with consecutive := 0 }
         else if more < set.windows then upd fun ch => { ch with consecutive := more }
         else handChannel c .alarmValue (some rate) (upd fun ch => { ch with state := .alarm, consecutive := 0, peak := rate })
       | .alarm =>
         if set.setLow ≤ rate then upd fun ch => { ch with peak := max ch.peak rate, consecutive := 0 }
         else if more < set.windows then upd fun ch => { ch with peak := max ch.peak rate, consecutive := more }
         else
           let s1 := upd fun ch => { ch with peak := max ch.peak rate, state := .normal, consecutive := 0 }
           if set.restoreReporting then handChannel c .restoreValue (some (max ch0.peak rate)) s1 else s1
       | _ => upd id))
    ∧ ∀ (c : ChannelNo) (e : Nat) (s : State), s.running = true → (s.chanSettings c).mode = .count →
        (s.chan c).windowEnd = some e → e ≤ s.now →
        let set := s.chanSettings c
        let ch0 := s.chan c
        let upd (f : Channel → Channel) := s.setChan c fun ch =>
          f { ch with hold := ch.pulses, pulses := 0, windowEnd := some (e + 1000 * set.window) }
        exec (.windowEnd c) s = .next (if ch0.state = .alarm ∧ ch0.pulses < set.setLow then
            let s1 := upd fun ch => { ch with state := .normal }
            if set.restoreReporting then handChannel c .restoreValue (some ch0.pulses) s1 else s1
          else upd id)

/-- A band of OPEN or SHORT held for 1 s outside FAULT is a fault entry, and in FAULT, differing from the fault band, a fault band
change, of which the channel keeps all but its fault band; NORMAL or ACTIVE held for 1 s in FAULT is a fault exit, and the channel
takes the state of the table of R18, a CONTACT channel whose confirm or restore time is 0 at once with its report (R3, R16 to
R18). The order of the two notices of a fault band change, the old band's first, and an alarm memory of no after a fault exit are the
model's choices (DEDUCED, log entries 12 and 27), and so is an absent alarm entry time counted as 0 (DESIGN CHOICE, log entry 18). -/
def Obligations.Wiring_faults : Prop :=
  (∀ (c : ChannelNo) (b : Band) (s : State), s.running = true → (s.chanSettings c).mode ≠ .disabled →
     b = .opened ∨ b = .short → (s.chan c).sampled = b → (s.chan c).bandSince + 1000 ≤ s.now →
     ((s.chan c).state ≠ .fault → (s.chan c).state ≠ .disabled →
         exec (.wiringFaultEntry c) s = .next (tellTrouble (faultCondition c b) true (s.setChan c fun ch =>
           { ch with
             state := .fault, faultBand := some b, alarmMemory := decide (ch.state = .alarm ∨ ch.state = .restoring)
             confirmTimer := .stopped, restoreTimer := .stopped, windowEnd := none, pulses := 0, consecutive := 0 })))
       ∧ ∀ old, (s.chan c).state = .fault → (s.chan c).faultBand = some old → old ≠ b →
           let t := tellTrouble (faultCondition c b) true
             (tellTrouble (faultCondition c old) false (s.setChan c fun ch => { ch with faultBand := some b }))
           exec (.wiringFaultBandChange c) s = .next t ∧ t.chan c = { s.chan c with faultBand := some b }
             ∧ (old = .opened ∨ old = .short →
                 (t.cond (faultCondition c old)).active = false ∧ (t.cond (faultCondition c b)).active = true))
    ∧ ∀ (c : ChannelNo) (b old : Band) (s : State), s.running = true → (s.chanSettings c).mode ≠ .disabled →
        b = .normal ∨ b = .active → (s.chan c).sampled = b → (s.chan c).bandSince + 1000 ≤ s.now →
        (s.chan c).state = .fault → (s.chan c).faultBand = some old →
        let set := s.chanSettings c
        let told := tellTrouble (faultCondition c old) false (s.setChan c fun ch =>
          { ch with faultBand := none, qualified := b, alarmMemory := false })
        exec (.wiringFaultExit c) s = .next (match set.mode, (s.chan c).alarmMemory, b with
          | .contact, true, .active => told.setChan c fun ch => { ch with state := .alarm }
          | .contact, true, _ =>
            if set.restore = 0 then restored c b told
            else told.setChan c fun ch =>
              { ch with state := .restoring, restoreTimer := .running (s.now + 1000 * set.restore) }
          | .contact, false, .active =>
            if set.confirm = 0 then inAlarm c b told
            else told.setChan c fun ch =>
              { ch with state := .confirming, confirmTimer := .running (s.now + 1000 * set.confirm) }
          | .contact, false, _ => told.setChan c fun ch => { ch with state := .normal }
          | _, memory, _ => told.setChan c fun ch =>
              { ch with state := if memory then .alarm else .normal, windowEnd := some (s.now + 1000 * set.window) })

/-- A channel that is bypassed hands no ALARM or RESTORE report. One that is not sets its last queued kind, whatever becomes of
the report, and changes nothing else of any channel; placed, the report carries the channel's class, event code, group and
number, the value, and the unit clock reading (R19, R20). -/
def Obligations.Channel_hands_its_report : Prop :=
  ∀ (c : ChannelNo) (q : Qualifier) (v : Option Nat) (s : State),
    let t := handChannel c q v s
    let set := s.chanSettings c
    let m : Matter := ⟨set.cls, q, set.event, set.group, .channel c, v, s.clock⟩
    ((s.chan c).bypass = true → t = s)
      ∧ ((s.chan c).bypass = false →
          t.chan c = { s.chan c with lastKind := q.kind } ∧ (∀ d, d ≠ c → t.chan d = s.chan d)
            ∧ (s.settings.hasRoute set.cls = true → consult m s = none → s.queue.reports.length < 32 →
                ∃ r ∈ t.queue.reports, r.seq = s.queue.newSeq ∧ r.matter = m))

/-! ### The report queue (chapter 2) -/

/-- The number given to a report handed is none of those held, can be written in 16 bits, and is the counter's value unless a report
holds that; then every value passed over, from the counter on and from 65535 to 0, is held. The counter then stands after it. A report of a class without a route, and one that the peer listener finds covered,
goes straight to the history under its number, and touches nothing else (R28, R32, R33, R48). -/
def Obligations.Numbers_and_reports_not_entered : Prop :=
  (∀ s : State, s.queueSound →
     s.queue.newSeq < 65536 ∧ s.queue.newSeq ∉ s.queue.reports.map (·.seq)
       ∧ (s.queue.counter ∉ s.queue.reports.map (·.seq) → s.queue.newSeq = s.queue.counter)
       ∧ (∃ k, k ≤ s.queue.reports.length ∧ s.queue.newSeq = (s.queue.counter + k) % 65536
           ∧ ∀ j < k, (s.queue.counter + j) % 65536 ∈ s.queue.reports.map (·.seq))
       ∧ ∀ m : Matter, s.settings.hasRoute m.cls = false →
           (handReport m s).queue.counter = (if s.queue.newSeq = 65535 then 0 else s.queue.newSeq + 1))
    ∧ ∀ (m : Matter) (s : State),
        let q := s.queue.newSeq
        let next := if q = 65535 then 0 else q + 1
        let gone (f : Fate) : State :=
          { s with queue := { s.queue with counter := next, history := s.historyWith ⟨q, m, f, s.clock⟩ } }
        ((s.settings.routes.get m.cls).first = none → handReport m s = gone .notRouted)
          ∧ ∀ peer, (s.settings.routes.get m.cls).first ≠ none → consult m s = some peer → handReport m s = gone (.covered peer)

/-- The peer listener answers covered for a FIRE, SPRINKLER or BOILER report of kind ALARM or RESTORE in a shared group whose
standing word has its kind and was heard within the coverage window of its occurred time, and only then; its answer is the standing
word's station. The kind of a report is that of its qualifier. The standing word is the acknowledged entry of the class and group heard
latest, and among those the one whose acknowledgement counted last; there is none without an acknowledged entry. A group is shared
when it is in the shared group set and is not 00; an acknowledgement of another group covers nothing (R132, R134). -/
def Obligations.Coverage_on_entry : Prop :=
  let kind : Qualifier → Kind
    | .alarm | .alarmValue | .reassert => .alarm
    | .restore | .restoreValue => .restore
    | .status => .status
  (∀ (m : Matter) (s : State) (peer : Nat),
     consult m s = some peer ↔
       m.cls ∈ [ReportClass.fire, .sprinkler, .boiler] ∧ (kind m.qualifier = .alarm ∨ kind m.qualifier = .restore)
         ∧ m.group ≠ 0 ∧ m.group ∈ s.settings.shared
         ∧ ∃ w, s.standingWord m.cls m.group = some w ∧ w.key.kind = kind m.qualifier ∧ w.key.station = peer
             ∧ w.heard ≤ m.occurred + s.settings.coverage ∧ m.occurred ≤ w.heard + s.settings.coverage)
    ∧ (∀ (l : LineNo) (s : State) (a : Awaiting) (k : HeardKey), (s.decoder l).awaiting = some a → a.names = some k →
        k.group = 0 ∨ k.group ∉ s.settings.shared → (peerAck l s).queue = s.queue)
    ∧ ∀ (c : ReportClass) (g : Nat) (s : State),
        match s.standingWord c g with
        | none => ∀ e ∈ s.listener.heard, e.key.cls = c → e.key.group = g → e.acknowledged = false
        | some w =>
          w ∈ s.listener.heard ∧ w.acknowledged = true ∧ w.key.cls = c ∧ w.key.group = g
            ∧ ∀ e ∈ s.listener.heard, e.acknowledged = true → e.key.cls = c → e.key.group = g →
                e.heard < w.heard ∨ (e.heard = w.heard ∧ e.ackOrder ≤ w.ackOrder)

/-- A report with a route that is not covered is placed behind every report of its rank and occurred time when fewer than 32 are
held; with 32 held it takes the place of the last evictable report of the greatest rank, if that is greater than its own; with
none it is DROPPED and the overflow count rises, and the first refusal makes QUEUE_OVERFLOW active. At a placing, with an eviction or
without, the head is decided anew, and in CE_IDLE the access controller hears of a change. A report placed in a call is offered: an eligible one that fits and is more urgent than the batch head goes in behind the block in flight or first, a fifth
entry returning without charge; a more urgent one that does not fit marks the call, or ends it SUSPENDED with no block in flight;
any other that fits is added last of at most four (R29, R30, R34 to R36, R98, R118 to R121). That an eviction and the placing that
follows decide the head once is the model's reading (DEDUCED, log entry 12). -/
def Obligations.Report_placed_or_refused : Prop :=
  (∀ (m : Matter) (s : State), s.queueSound → s.settings.hasRoute m.cls = true → consult m s = none →
     let q := s.queue.newSeq
     let put (l : List (Nat × Matter)) : List (Nat × Matter) :=
       l.filter (fun p => notAfter p.2 m) ++ (q, m) :: l.filter (fun p => !notAfter p.2 m)
     (s.queue.reports.length < 32 → (handReport m s).owed = put s.owed ∧ (handReport m s).queue.history = s.queue.history)
       ∧ ∀ before v after, s.queue.reports = before ++ v :: after → s.queue.reports.length = 32 →
           evictable v = true → m.cls.rank < v.matter.cls.rank →
           (∀ r ∈ before, evictable r = true → r.matter.cls.rank ≤ v.matter.cls.rank) →
           (∀ r ∈ after, evictable r = true → r.matter.cls.rank < v.matter.cls.rank) →
             (handReport m s).owed = put ((before ++ after).map fun r => (r.seq, r.matter))
               ∧ (handReport m s).queue.history = s.historyWith ⟨v.seq, v.matter, .dropped, s.clock⟩
               ∧ (handReport m s).queue.overflow = s.queue.overflow)
    ∧ (∀ (m : Matter) (s : State), s.settings.hasRoute m.cls = true → consult m s = none → 32 ≤ s.queue.reports.length →
        (∀ r ∈ s.queue.reports, evictable r = true → r.matter.cls.rank ≤ m.cls.rank) →
        let q := s.queue.newSeq
        let refused : State := { s with queue := { s.queue with
          counter := if q = 65535 then 0 else q + 1, history := s.historyWith ⟨q, m, .dropped, s.clock⟩
          overflow := min (s.queue.overflow + 1) 65535, overflowMark := true } }
        handReport m s = (if s.queue.overflowMark then refused else tellTrouble .queueOverflow true refused)
          ∧ (handReport m s).queue.overflowMark = true
          ∧ (s.queue.overflowMark = false → ((handReport m s).cond .queueOverflow).active = true))
    ∧ (∀ (m : Matter) (s : State), s.queueSound → s.settings.hasRoute m.cls = true → consult m s = none →
        let q := s.queue.newSeq
        let new : Report := ⟨q, m, .queued, s.clock, none, 0, 0, decide (m.qualifier = .reassert)⟩
        let placed (others : List Report) (history : List HistoryEntry) : State :=
          State.headAnew { s with queue := { s.queue with
            counter := if q = 65535 then 0 else q + 1, history := history
            reports := others.filter (fun x => notAfter x.matter m) ++ new :: others.filter (fun x => !notAfter x.matter m) } }
        let hands (t : State) : Prop := handReport m s = offerReport new t
          ∧ (s.call.state = .idle ∨ s.call.state = .closing → handReport m s = t)
        (s.queue.reports.length < 32 → hands (placed s.queue.reports s.queue.history))
          ∧ ∀ before v after, s.queue.reports = before ++ v :: after → s.queue.reports.length = 32 →
              evictable v = true → m.cls.rank < v.matter.cls.rank →
              (∀ r ∈ before, evictable r = true → r.matter.cls.rank ≤ v.matter.cls.rank) →
              (∀ r ∈ after, evictable r = true → r.matter.cls.rank < v.matter.cls.rank) →
                hands (placed (before ++ after) (s.historyWith ⟨v.seq, v.matter, .dropped, s.clock⟩)))
    ∧ ∀ (r : Report) (s : State),
        let offered : Prop := s.inCall = true ∧ s.eligible r = true ∧ s.call.suspend = false
        let fits : Prop := s.call.dest.isSome ∧ s.settings.currentDest r = s.call.dest
          ∧ ∃ l, s.call.line = some l ∧ (s.settings.masks.get r.matter.cls).getLsbD l.val = true
        let entry : BatchEntry := ⟨r.seq, 0⟩
        let inserted : List BatchEntry := match s.call.batch with
          | [] => [entry]
          | b :: rest => if s.call.inFlight then b :: entry :: rest else entry :: b :: rest
        let pushed := (inserted.drop 4).map (·.seq)
        let taking (batch : List BatchEntry) (out : List Nat) (head : Option Nat) : State :=
          { s with
            call := { s.call with batch := batch }
            queue := { s.queue with head := head, reports := s.queue.reports.map fun x =>
              if x.seq ∈ out then { x with state := .queued, eligibleAt := s.clock }
              else if x.seq = r.seq then { x with state := .inCall } else x } }
        (¬ offered → offerReport r s = s)
          ∧ ∀ h, offered → s.batchHead = some h →
              (r.matter.cls.rank < h.matter.cls.rank → fits →
                  offerReport r s = taking (inserted.take 4) pushed (taking (inserted.take 4) pushed none).firstEligible)
                ∧ (r.matter.cls.rank < h.matter.cls.rank → ¬ fits →
                    offerReport r s = if s.call.inFlight then s.setCall fun c => { c with suspend := true }
                      else endCall .suspended s)
                ∧ (h.matter.cls.rank ≤ r.matter.cls.rank → fits → s.call.batch.length < 4 →
                    offerReport r s = taking (s.call.batch ++ [entry]) [] (taking (s.call.batch ++ [entry]) [] none).firstEligible)
                ∧ (h.matter.cls.rank ≤ r.matter.cls.rank → ¬ fits ∨ 4 ≤ s.call.batch.length → offerReport r s = s)

/-- At a QUEUED report's eligible-at the queue decides its head anew: the first report in queue order that is QUEUED, whose
eligible-at is not later than now, whose mask names a fitted line and whose class has a route; the access controller hears of a
change while the call engine is in CE_IDLE. At a RESTING report's rest end it returns to QUEUED with no attempts, eligible now, and
the head is decided anew in the same way; no trouble is told. What the access controller makes of a head lost and of a new head, in
each access state (R30, R31, R38, R43, R73, R78, R81, R86, R87, R93, R94). That the head stands as last decided until then is the
model's reading (DEDUCED, log entry 13). -/
def Obligations.Queued_and_resting_deadlines : Prop :=
  (∀ (seq : Nat) (r : Report) (s : State), s.running = true → s.report seq = some r → r.state = .queued →
     r.eligibleAt ≤ s.clock →
     ∃ t, exec (.eligibleAtReached seq) s = .next t ∧ t = s.headAnew ∧ t.queue = { s.queue with head := s.headFirst }
       ∧ t.settings = s.settings ∧ t.channels = s.channels ∧ t.call = s.call ∧ t.trouble = s.trouble ∧ t.port = s.port)
    ∧ (∀ (seq : Nat) (r : Report) (e : Nat) (s : State), s.running = true → s.report seq = some r → r.state = .resting →
        r.restEnd = some e → e ≤ s.clock →
        let back : State := { s with queue := { s.queue with reports := s.queue.reports.map fun x => if x.seq = seq then
          { x with state := .queued, attempts := 0, eligibleAt := s.clock, restEnd := none } else x } }
        ∃ t, exec (.restEnd seq) s = .next t ∧ t = back.headAnew ∧ t.queue = { back.queue with head := back.headFirst }
          ∧ t.trouble = s.trouble
          ∧ t.settings = s.settings ∧ t.channels = s.channels ∧ t.call = s.call ∧ t.port = s.port)
    ∧ ∀ s : State,
        let to_ (a : AccessState) (u : State) : State := { u with access := ⟨a, u.access.cursor⟩ }
        (s.headReport = none → accessHeadChange s = match s.access.state with
          | .idle => s
          | .wait _ _ _ | .holdoff _ _ _ _ _ => to_ .idle s
          | .check _ l | .preempt _ l _ | .granted _ l _ _ => to_ .idle (releaseLine .access .plain l s))
          ∧ ∀ r, s.headReport = some r →
              let may := Permitted s r.matter.cls
              (s.access.state = .idle → accessHeadChange s = if s.call.state = .idle then chooseLine s.now s else s)
                ∧ (∀ t0 since waited, s.access.state = .wait t0 since waited →
                    ((∃ l, may l ∧ (s.line l).state = .idle) → accessHeadChange s = chooseLine t0 s)
                      ∧ ((∀ l, may l → (s.line l).state ≠ .idle) → accessHeadChange s = laterPreemptionTest s))
                ∧ (∀ t0 l h base deadline, s.access.state = .holdoff t0 l h base deadline →
                    let again := to_ (.holdoff t0 l (holdoffTime s r) base (base + holdoffTime s r)) s
                    (may l → s.now < base + holdoffTime s r → accessHeadChange s = again)
                      ∧ (may l → base + holdoffTime s r ≤ s.now → s.running = true →
                          exec .holdoffDeadline again = .next (accessHeadChange s))
                      ∧ (¬ may l → accessHeadChange s = chooseLine t0 s))
                ∧ (∀ t0 l, s.access.state = .check t0 l → accessHeadChange s = s)
                ∧ (∀ t0 l rec, s.access.state = .preempt t0 l rec →
                    let goesOn := r.matter.cls.rank ≤ 1 ∧ may l ∧ ∀ o, rec.occupant = some o → r.matter.cls.rank < o.rank
                    (rec.phase = .break ∨ goesOn → accessHeadChange s = s)
                      ∧ (rec.phase = .demanding → ¬ goesOn →
                          accessHeadChange s = chooseLine t0 (releaseLine .access .plain l s)))
                ∧ (∀ t0 l q passed, s.access.state = .granted t0 l q passed →
                    (may l → accessHeadChange s = to_ (.granted t0 l r.seq passed) s)
                      ∧ (¬ may l → accessHeadChange s = chooseLine t0 (releaseLine .access .plain l s)))

/-! ### Troubles and local indication (chapter 7) -/

/-- The test timer's expiry hands a TEST report of event 320, or counts a missed test while one is in the queue; the next expiry
falls one interval after this one (R148). -/
def Obligations.Test_timer_expires : Prop :=
  ∀ (e : Nat) (s : State), s.running = true → s.trouble.testExpiry = some e → e ≤ s.clock →
    let present := ∃ r ∈ s.queue.reports, r.matter.cls = .test ∧ r.matter.event = 320
    let next := some (e + 3600 * s.settings.testHours)
    (present → exec .testTimerExpiry s = .next { s with trouble := { s.trouble with
        testExpiry := next, missedTests := min (s.trouble.missedTests + 1) 255 } })
      ∧ (¬ present → exec .testTimerExpiry s = .next (handReport ⟨.test, .status, 320, 0, .unit, none, s.clock⟩
          { s with trouble := { s.trouble with testExpiry := next } }))

/-- A notice that leaves a condition as it is changes nothing; one that changes it sets the four fields of R139 and R140, discards the
pending report and, with trouble reporting off, does nothing else. With it on, the condition's report is handed to the queue: one
that is not refused leaves nothing pending, and one that is refused becomes the pending report, pending since now, after which the
first refusal makes QUEUE_OVERFLOW active. A pending report that is handed again and refused stays pending, with its pending since
now, and no further one is handed. The reports of the twenty-eight conditions carry the event codes, groups and sources of section
7.1 (R27, R36, R138 to R143). -/
def Obligations.Condition_notices : Prop :=
  (∀ (c : Condition) (active : Bool) (s : State),
     let t := tellTrouble c active s
     let r := s.cond c
     let changed : State := s.setCond c fun _ =>
       { active := active, unacknowledged := active || r.unacknowledged, since := some s.clock
         occurrences := if active then min (r.occurrences + 1) 255 else r.occurrences, pending := none }
     let m := c.report active s.clock
     (r.active = active → t = s)
       ∧ (r.active ≠ active → s.settings.troubleReporting = false → t = changed)
       ∧ (r.active ≠ active → s.settings.troubleReporting = true →
           (¬ Refused m changed → t = handReport m changed ∧ t.trouble = changed.trouble
               ∧ if s.settings.hasRoute .trouble then ∃ x ∈ t.queue.reports, x.matter = m
                 else ∃ x ∈ t.queue.history, x.matter = m ∧ x.fate = .notRouted)
             ∧ (Refused m changed → t = refusedPending c m changed
               ∧ (c ≠ .queueOverflow ∨ active = true →
                   t.cond c = { changed.cond c with pending := some ⟨m, s.clock, s.trouble.refusals⟩ }))))
    ∧ (∀ (n : Nat) (c : Condition) (p : PendingReport) (s : State), (s.cond c).pending = some p →
        (∀ b q, b ≠ c → (s.cond b).pending = some q → p.order < q.order) → Refused p.matter s →
          handPending (n + 1) s = refusedPending c p.matter s
            ∧ (c ≠ .queueOverflow ∨ s.queue.overflowMark = true ∨ (s.cond c).active = true →
                ((handPending (n + 1) s).cond c).pending = some ⟨p.matter, s.clock, s.trouble.refusals⟩))
    ∧ ∀ (c : Condition) (begins : Bool) (since : Nat),
        let row := match c with
          | .channelOpen n => (340, n.val + 1, Source.channel n)
          | .channelShort n => (341, n.val + 1, .channel n)
          | .lineDead n => (350, n.val + 11, .line n)
          | .lineNoLoop n => (351, n.val + 11, .line n)
          | .commFail => (360, 0, .unit)
          | .queueOverflow => (361, 0, .unit)
          | .stationClash => (362, 0, .unit)
          | .configDefaulted => (370, 0, .unit)
        c.report begins since = ⟨.trouble, if begins then .alarm else .restore, row.1, row.2.1, row.2.2, none, since⟩
          ∧ allConditions.length = 28 ∧ allConditions[c.index.val]? = some c

/-- The trouble relay is energised when start is complete and the list holds no active and no unacknowledged condition, and only
then. The lamps: the trouble lamp from the whole list, a channel's and a line's from its state, each shown steady, flashing with
its one period or dark, and all dark in a start (R22, R70, R146, R147). That relay and lamps follow the records at once, with no state of
their own and no phase of a flash, is the model's reading (DEDUCED, log entry 16). -/
def Obligations.Relay_and_lamps : Prop :=
  (∀ s : State, s.troubleRelay = true ↔
     s.phase = .running ∧ ∀ c : Condition, (s.cond c).active = false ∧ (s.cond c).unacknowledged = false)
    ∧ ∀ s : State,
        (s.troubleLamp = .steady ↔ s.phase = .running ∧ ∃ c, (s.cond c).active = true)
          ∧ (s.troubleLamp = .flashing 500 ↔
              s.phase = .running ∧ (∀ c, (s.cond c).active = false) ∧ ∃ c, (s.cond c).unacknowledged = true)
          ∧ (s.troubleLamp = .dark ↔
              s.phase ≠ .running ∨ ∀ c, (s.cond c).active = false ∧ (s.cond c).unacknowledged = false)
          ∧ (∀ c, s.channelLamp c = .steady ↔ s.phase = .running ∧ (s.chan c).state = .alarm)
          ∧ (∀ c, s.channelLamp c = .flashing 500 ↔ s.phase = .running ∧ (s.chan c).state = .fault)
          ∧ (∀ c, s.channelLamp c = .dark ↔
              s.phase ≠ .running ∨ (s.chan c).state ∈ [.disabled, .normal, .confirming, .restoring])
          ∧ (∀ l, s.lineLamp l = .flashing 125 ↔
              s.phase = .running ∧ ((s.line l).state = .suspect ∨ (s.line l).state = .faulted))
          ∧ (∀ l, s.lineLamp l = .steady ↔ s.phase = .running ∧ ((s.line l).state = .held ∨ (s.line l).state = .break))
          ∧ (∀ l, s.lineLamp l = .flashing 1000 ↔ s.phase = .running ∧ (s.line l).state = .occupied)
          ∧ (∀ l, s.lineLamp l = .dark ↔
              s.phase ≠ .running ∨ (s.line l).state ∈ [.unfitted, .settling, .idle, .guard])

/-! ### Line access (chapter 4) -/

/-- The hold-off: the class base, 40 ms for each place of the slot, and 500 ms for each of at most six contentions; the stride
lies from 1 to 31, the slot from 0 to 31 and the hold-off from 0 to 5440 ms. It is computed from the head, with the contention the
queue then holds, at each choice that yields a chosen line, and again at each head change in AC_HOLDOFF (R76). -/
def Obligations.Holdoff_formula : Prop :=
  (∀ (s : State) (r : Report), s.headReport = some r →
    (∀ t0 t1 l h base deadline, (chooseLine t0 s).access.state = .holdoff t1 l h base deadline → h = holdoffTime s r)
      ∧ ∀ t0 l h base deadline t1 m h' base' deadline', s.access.state = .holdoff t0 l h base deadline →
          (accessHeadChange s).access.state = .holdoff t1 m h' base' deadline' → h' = holdoffTime s r)
  ∧ ∀ (s : State) (r : Report),
    let d := 1 + s.unique.toNat % 31
    let k := (s.settings.station + r.contention * d) % 32
    let b := match r.matter.cls with
      | .fire => 0
      | .sprinkler => 300
      | .boiler => 600
      | .trouble => 900
      | .test => 1200
    holdoffTime s r = b + 40 * k + 500 * min r.contention 6 ∧ 1 ≤ d ∧ d ≤ 31 ∧ k ≤ 31 ∧ holdoffTime s r ≤ 5440

/-- Choosing a line for the head: the first permitted IDLE line in the rotation from the cursor, its deadline counted from the later
of T0 and the line's idle-since plus 1500 ms; AC_WAIT when there is none. A line chosen with its deadline not later than now is
seized at once, and any other at its deadline: if it is IDLE and no other line is taken its check window starts and the cursor
moves to the line after it; refused at the deadline, a line is chosen again without charge, and refused at once the choice stands
(R59, R74 to R77, R79, R82). That the seized line keeps for that instant since when its receiver had been classifying is the model's
choice (DEDUCED, log entry 9). -/
def Obligations.Line_chosen_and_seized : Prop :=
  (∀ (t0 : Nat) (s : State) (r : Report), s.headReport = some r →
     let free (l : LineNo) : Prop := Permitted s r.matter.cls l ∧ (s.line l).state = .idle
     let waiting : State := { s with access := ⟨.wait t0 s.now false, s.access.cursor⟩ }
     ((∀ l, ¬ free l) → awaitLine t0 s = waiting ∧ chooseLine t0 s = waiting)
       ∧ ∀ i : Fin 4, free (s.access.cursor + i) → (∀ j : Fin 4, j < i → ¬ free (s.access.cursor + j)) →
           let l := s.access.cursor + i
           let base := max t0 ((s.line l).enteredAt + 1500)
           let chosen : State := { s with access :=
             ⟨.holdoff t0 l (holdoffTime s r) base (base + holdoffTime s r), s.access.cursor⟩ }
           awaitLine t0 s = chosen
             ∧ (s.now < base + holdoffTime s r ∨ ¬ OthersFree s l → chooseLine t0 s = chosen)
             ∧ (base + holdoffTime s r ≤ s.now → OthersFree s l →
                 let t := chooseLine t0 s
                 t.access = ⟨.check t0 l, l + 1⟩ ∧ SeizedLine true l s t ∧ OnlyAccess s t ∧ t.tone = s.tone))
    ∧ ∀ (s : State) (t0 h base deadline : Nat) (l : LineNo), s.running = true →
        s.access.state = .holdoff t0 l h base deadline → deadline ≤ s.now →
        ((s.line l).state = .idle → OthersFree s l →
            ∃ t, exec .holdoffDeadline s = .next t ∧ t.access = ⟨.check t0 l, l + 1⟩ ∧ SeizedLine true l s t ∧ OnlyAccess s t
              ∧ t.tone = s.tone)
          ∧ ((s.line l).state ≠ .idle ∨ ¬ OthersFree s l → exec .holdoffDeadline s = .next (chooseLine t0 s))

/-- The line preferred for preemption is a candidate; a known occupant comes before an unknown one, then the greatest rank, then the
lowest line number. At the preempt wait expiry a FIRE or SPRINKLER head with a candidate makes the preempt seize of it: the line
is HELD without a check window, and the first demand's D begins; refused, a line is chosen with T0 kept; in every other case the
access controller goes on waiting. After the expiry the events of R78 make the same test, and before it none (R75, R78, R79, R88 to
R90). What the seize and the tone make of the receiver's record is the model's choice (DEDUCED, log entry 9). -/
def Obligations.Preemption_begins : Prop :=
  (∀ (s : State) (k : ReportClass),
     let pref (l : LineNo) : Nat := match (s.line l).occupant with
       | none => 0
       | some o => o.rank + 1
     match preferredCandidate s k with
     | none => ∀ l, ¬ Candidate s k l
     | some l => Candidate s k l ∧ ∀ m, Candidate s k m → pref m < pref l ∨ (pref m = pref l ∧ l ≤ m))
    ∧ (∀ (s : State) (t0 since : Nat), s.running = true → s.access.state = .wait t0 since false → since + 2000 ≤ s.now →
        ((∀ r, s.headReport = some r → 2 ≤ r.matter.cls.rank ∨ preferredCandidate s r.matter.cls = none) →
            exec .preemptWaitExpiry s = .next { s with access := ⟨.wait t0 since true, s.access.cursor⟩ })
          ∧ ∀ r l, s.headReport = some r → r.matter.cls.rank ≤ 1 → preferredCandidate s r.matter.cls = some l →
              (¬ OthersFree s l → exec .preemptWaitExpiry s = .next (chooseLine t0 s))
                ∧ (OthersFree s l → s.tone.sounding = none →
                  ∃ t, exec .preemptWaitExpiry s = .next t ∧ SeizedLine false l s t ∧ OnlyAccess s t
                    ∧ t.tone.sounding = some (⟨l, .d, 600⟩, s.now + 600)
                    ∧ t.access = ⟨.preempt t0 l
                        { occupant := (s.line l).occupant, phase := .demanding, demands := 1, soleSince := none
                          responseEnd := s.now + 4000, digit := r.matter.cls, gapEnd := none, nextDemand := none }, l + 1⟩))
    ∧ ∀ (s : State) (t0 since : Nat),
        (s.access.state = .wait t0 since false → laterPreemptionTest s = s)
          ∧ (s.running = true → s.access.state = .wait t0 since true → since + 2000 ≤ s.now →
              exec .preemptWaitExpiry { s with access := ⟨.wait t0 since false, s.access.cursor⟩ } = .next (laterPreemptionTest s))

/-- While DEMANDING: 200 ms after the D the class digit read at the demand's beginning is sent for 200 ms; a further demand
begins with its D, the head's class and a later response end (R90). That an own tone forgets a HANDSHAKE or ACK in progress is the
model's choice (DEDUCED, log entry 9). -/
def Obligations.Demand_goes_on : Prop :=
  ∀ (s : State) (t0 : Nat) (l : LineNo) (rec : PreemptRecord), s.running = true →
    s.access.state = .preempt t0 l rec → rec.phase = .demanding → (s.line l).state = .held → s.tone.sounding = none →
    ((∃ g, rec.gapEnd = some g ∧ g ≤ s.now) →
        ∃ t, exec .yieldDemandGapEnd s = .next t ∧ OnlyAccess s t
          ∧ t.tone.sounding = some (⟨l, .digit (Fin.ofNat 10 rec.digit.rank), 200⟩, s.now + 200)
          ∧ t.access = ⟨.preempt t0 l { rec with gapEnd := none }, s.access.cursor⟩
          ∧ t.lines = (s.setLine l fun ln => { ln with handshakeHeard := false, ackHeard := false }).lines)
      ∧ ∀ r g, s.headReport = some r → rec.nextDemand = some g → g ≤ s.now →
          ∃ t, exec .yieldDemandRepeat s = .next t ∧ OnlyAccess s t
            ∧ t.tone.sounding = some (⟨l, .d, 600⟩, s.now + 600)
            ∧ t.access = ⟨.preempt t0 l
                { rec with demands := min (rec.demands + 1) 3, responseEnd := s.now + 4000, digit := r.matter.cls
                           gapEnd := none, nextDemand := none }, s.access.cursor⟩
            ∧ t.lines = (s.setLine l fun ln => { ln with handshakeHeard := false, ackHeard := false }).lines

/-- SOLE held for 200 ms while DEMANDING is success: the line goes on-hook into BREAK and the demand's tone stops. At the response
end without success the line goes to GUARD with its no-yield mark set, the head's contention rises by one, no attempt is charged,
and a line is chosen with T0 now (R62, R91, R92). -/
def Obligations.Preemption_succeeds_or_fails : Prop :=
  (∀ (s : State) (t0 since : Nat) (l : LineNo) (rec : PreemptRecord), s.running = true →
     s.access.state = .preempt t0 l rec → rec.phase = .demanding → rec.soleSince = some since → since + 200 ≤ s.now →
     (s.line l).state = .held → (s.line l).holder = some .access →
     ∃ t, exec .preemptSuccess s = .next t ∧ OnlyAccess s t ∧ t.listener = s.listener
       ∧ (t.line l).state = .break ∧ (t.line l).enteredAt = s.now ∧ (t.line l).holder = some .access
       ∧ (t.line l).qualifiedCurrent = none ∧ (∀ m, m ≠ l → t.line m = s.line m)
       ∧ t.access = ⟨.preempt t0 l { rec with phase := .break, gapEnd := none, nextDemand := none }, s.access.cursor⟩
       ∧ (∀ p, t.tone.sounding = some p → p.1.line ≠ l) ∧ (∀ r ∈ t.tone.waiting, r.line ≠ l))
    ∧ ∀ (s : State) (t0 : Nat) (l : LineNo) (rec : PreemptRecord) (r : Report), s.running = true →
        s.access.state = .preempt t0 l rec → rec.phase = .demanding → rec.responseEnd ≤ s.now →
        (s.line l).state = .held → (s.line l).holder = some .access → s.headReport = some r →
        ∃ t, exec .preemptResponseEnd s = .next t
          ∧ (t.line l).state = .guard ∧ (t.line l).noYield = true ∧ (t.line l).holder = none ∧ (t.line l).enteredAt = s.now
          ∧ t.queue = { s.queue with reports := s.queue.reports.map fun x =>
              if x.seq = r.seq then { x with contention := min (x.contention + 1) 15 } else x }
          ∧ t.access.state.t0 = some s.now ∧ t.access.state.chosen ≠ some l
          ∧ t.settings = s.settings ∧ t.channels = s.channels ∧ t.call = s.call ∧ t.trouble = s.trouble ∧ t.port = s.port

/-! ### Exchange lines (chapter 3) -/

/-- A voltage band that has held for 100 ms becomes the qualified band, and moves a line out of IDLE, OCCUPIED and SUSPECT, and out of a
timed stay that is over. The line's record in the state of a band: entered now, occupant unknown, no fault cause, and the no-yield
mark kept only from a GUARD into OCCUPIED; into SUSPECT with a dead run of 10 s, it is FAULTED at once. What the access controller
makes of the notice in each of its states (R51, R53 to R58, R61, R78, R80, R93). -/
def Obligations.Voltage_band_qualifies : Prop :=
  (∀ (l : LineNo) (b : OnhookBand) (s : State), s.running = true → (s.line l).state ≠ .held → (s.line l).state ≠ .unfitted →
     (s.line l).sampledOnhook = some b → (s.line l).qualifiedOnhook ≠ some b → (s.line l).onhookSince + 100 ≤ s.now →
     let st := (s.line l).state
     let s1 := s.setLine l fun ln => { ln with qualifiedOnhook := some b }
     let moves := ((st = .idle ∨ st = .occupied ∨ st = .suspect) ∧ b.lineState ≠ st)
       ∨ ((s.line l).periodOver = true ∧ (st = .settling ∨ st = .guard ∨ (st = .faulted ∧ (s.line l).faultCause = some .noLoop)))
     (¬ moves → exec (.lineOnhookBandQualified l) s = .next s1)
       ∧ (moves → exec (.lineOnhookBandQualified l) s = .next (enterOnhook l b s1)))
    ∧ (∀ (l : LineNo) (b : OnhookBand) (s : State),
        let told := accessLineNotice l (s.setLine l fun ln =>
          { ln with
            state := match b with
              | .idle => .idle
              | .occupied => .occupied
              | .dead => .suspect
            enteredAt := s.now, periodOver := false, faultCause := none, occupant := none
            noYield := ln.noYield && decide (ln.state = .guard ∧ b = .occupied) })
        (b ≠ .dead ∨ (∀ d, (told.line l).deadRunStart = some d → told.now < d + 10000) → enterOnhook l b s = told)
          ∧ (b = .dead → (told.line l).state = .suspect → (∃ d, (told.line l).deadRunStart = some d ∧ d + 10000 ≤ told.now) →
              ((enterOnhook l b s).line l).state = .faulted ∧ ((enterOnhook l b s).line l).faultCause = some .dead
                ∧ ((enterOnhook l b s).cond (.lineDead l)).active = true))
    ∧ ∀ (l : LineNo) (s : State),
        let idle := (s.line l).state = .idle
        (∀ t0 since waited, s.access.state = .wait t0 since waited →
            (¬ PermittedForHead s l → accessLineNotice l s = s)
              ∧ (PermittedForHead s l → idle → accessLineNotice l s = chooseLine t0 s)
              ∧ (PermittedForHead s l → ¬ idle → accessLineNotice l s = laterPreemptionTest s))
          ∧ (∀ t0 chosen h base deadline, s.access.state = .holdoff t0 chosen h base deadline →
              (l = chosen → ¬ idle → accessLineNotice l s = chooseLine t0 s)
                ∧ (l ≠ chosen ∨ idle → accessLineNotice l s = s))
          ∧ (∀ t0 held rec, s.access.state = .preempt t0 held rec →
              let gives := rec.phase = .demanding ∧ l ≠ held ∧ PermittedForHead s l ∧ idle
              (gives → accessLineNotice l s = chooseLine t0 (releaseLine .access .plain held s))
                ∧ (¬ gives → accessLineNotice l s = s))
          ∧ (s.access.state = .idle ∨ (∃ t0 m, s.access.state = .check t0 m)
              ∨ (∃ t0 m q passed, s.access.state = .granted t0 m q passed) → accessLineNotice l s = s)

/-- SETTLING ends after 2 s, GUARD after 1500 ms and a NO_LOOP fault after 30 s: the line takes the state of its qualified band, or
stays for the first to qualify. A dead run of 10 s takes a SUSPECT line to FAULTED, and gives a NO_LOOP fault the cause DEAD; a
dead line whose voltage has held IDLE or OCCUPIED for 5 s recovers into that state; the trouble unit is told. That the access
controller hears of a recovered line's state before the trouble unit hears of the condition is the model's choice (DEDUCED, log
entry 12) (R53, R55 to R57, R61). -/
def Obligations.Stays_and_dead_runs_end : Prop :=
  (∀ (l : LineNo) (s : State), s.running = true → (s.line l).periodOver = false →
     let ended := match (s.line l).qualifiedOnhook with
       | some b => enterOnhook l b s
       | none => s.setLine l fun ln => { ln with periodOver := true }
     ((s.line l).state = .settling → (s.line l).enteredAt + 2000 ≤ s.now → exec (.settlingEnd l) s = .next ended)
       ∧ ((s.line l).state = .guard → (s.line l).enteredAt + 1500 ≤ s.now → exec (.guardEnd l) s = .next ended)
       ∧ ((s.line l).state = .faulted → (s.line l).faultCause = some .noLoop → (s.line l).enteredAt + 30000 ≤ s.now →
           exec (.noLoopFaultEnd l) s = .next ended))
    ∧ ∀ (l : LineNo) (s : State), s.running = true →
        (∀ d, (s.line l).deadRunStart = some d → d + 10000 ≤ s.now →
            (s.line l).state = .suspect ∨ ((s.line l).state = .faulted ∧ (s.line l).faultCause = some .noLoop) →
              ∃ t, exec (.deadRunLimit l) s = .next t ∧ (t.line l).state = .faulted ∧ (t.line l).faultCause = some .dead
                ∧ (t.cond (.lineDead l)).active = true ∧ (t.line l).noLoop = (s.line l).noLoop
                ∧ t.channels = s.channels ∧ t.settings = s.settings ∧ t.port = s.port)
          ∧ ∀ b, (s.line l).state = .faulted → (s.line l).faultCause = some .dead → (s.line l).sampledOnhook = some b →
              b ≠ .dead → (s.line l).onhookSince + 5000 ≤ s.now →
                exec (.deadFaultRecovery l) s = .next (tellTrouble (.lineDead l) false (enterOnhook l b s))

/-- A change of qualified current band is told to the holder outside a check window; inside one it is used by the window, where
SHARED is a COLLISION: the line goes to GUARD, its collision count rises, and the access controller takes the result. Told, the
access controller follows SOLE while DEMANDING, passes the change on with a grant, and otherwise does nothing; the call engine
takes no action (R52, R60, R83, R87, R91, R97). -/
def Obligations.Current_band_qualifies : Prop :=
  (∀ (l : LineNo) (b : CurrentBand) (s : State), s.running = true → (s.line l).state = .held →
    (s.line l).sampledCurrent = some b → (s.line l).qualifiedCurrent ≠ some b → (s.line l).currentSince + 20 ≤ s.now →
    let s1 := s.setLine l fun ln => { ln with qualifiedCurrent := some b, qualifiedCurrentSince := s.now }
    exec (.currentBandQualified l) s = .next (
      if (s.line l).checkStart.isSome then
        if b = .shared then
          accessCheckResult .collision (dropToGuard false l (s1.setLine l fun ln =>
            { ln with collisions := min (ln.collisions + 1) 65535 }))
        else s1
      else if (s.line l).holder = some .access then accessCurrentChange b s1
      else s1))
    ∧ ∀ (b : CurrentBand) (s : State),
        accessCurrentChange b s = match s.access.state with
          | .preempt t0 l rec =>
            if rec.phase = .demanding then
              { s with access :=
                ⟨.preempt t0 l { rec with soleSince := if b = .sole then some s.now else none }, s.access.cursor⟩ }
            else s
          | .granted t0 l q passed => { s with access := ⟨.granted t0 l q (passed ++ [.currentChange b]), s.access.cursor⟩ }
          | _ => s

/-- A check window ends after 400 ms: CLEAR when the band is SOLE and has been since 200 ms into the window, NO_LOOP when it is NONE,
UNSETTLED otherwise. In AC_CHECK a collision charges the head's contention and sets T0 to now; NO_LOOP charges nothing and keeps
T0; CLEAR grants the line to the head if its class may use it, and otherwise releases it (R60, R61, R83 to R85). That the trouble
unit is told before the access controller takes the result, and what the receiver keeps at a NO_LOOP, are the model's choices (DEDUCED,
log entries 12 and 9). -/
def Obligations.Check_window_and_result : Prop :=
  (∀ (l : LineNo) (start : Nat) (s : State), s.running = true → (s.line l).state = .held →
     (s.line l).checkStart = some start → start + 400 ≤ s.now →
     let ln0 := s.line l
     let cleared := s.setLine l fun ln => { ln with checkStart := none, noLoop := false }
     let faulted := silenceLine l (s.setLine l fun ln =>
       { (ln.openRelay s.now .faulted none).receiverAnew s.now with faultCause := some .noLoop, noLoop := true })
     exec (.checkWindowEnd l) s = .next (
       if ln0.qualifiedCurrent = some .sole ∧ ln0.qualifiedCurrentSince ≤ start + 200 then
         accessCheckResult .clear (if ln0.noLoop then tellTrouble (.lineNoLoop l) false cleared else cleared)
       else if ln0.qualifiedCurrent = some .none then
         accessCheckResult .noLoop (if ln0.noLoop then faulted else tellTrouble (.lineNoLoop l) true faulted)
       else
         accessCheckResult .unsettled (dropToGuard false l (s.setLine l fun ln =>
           { ln with collisions := min (ln.collisions + 1) 65535 }))))
    ∧ ∀ (s : State) (t0 : Nat) (l : LineNo), s.access.state = .check t0 l →
        (∀ r, s.headReport = some r →
            let charged : State := { s with queue := { s.queue with reports := s.queue.reports.map fun x =>
              if x.seq = r.seq then { x with contention := min (x.contention + 1) 15 } else x } }
            accessCheckResult .collision s = chooseLine s.now charged ∧ accessCheckResult .unsettled s = chooseLine s.now charged
              ∧ accessCheckResult .noLoop s = chooseLine t0 s
              ∧ (Permitted s r.matter.cls l →
                  accessCheckResult .clear s = { s with access := ⟨.granted t0 l r.seq [], s.access.cursor⟩ })
              ∧ (¬ Permitted s r.matter.cls l → accessCheckResult .clear s = chooseLine t0 (releaseLine .access .plain l s)))
          ∧ (s.headReport = none →
              accessCheckResult .clear s = { releaseLine .access .plain l s with access := ⟨.idle, s.access.cursor⟩ })

/-- A BREAK ends after 1000 ms with the re-seize: the relay closes whatever the voltage has shown, the seize is counted, a check window
starts, and AC_CHECK is entered with the cursor as it stands. The release requests: from HELD to GUARD, with or without the
no-yield mark, or to BREAK; from BREAK to GUARD; no effect in any other state or from a block that is not the holder; leaving HELD
silences the line. A release into GUARD begins the receiver anew, and a sound that it heard to this instant may still be reported
and goes where the new state sends it (R62, R63, R67, R68, R75, R91; log entry 9). -/
def Obligations.Breaks_and_releases : Prop :=
  (∀ (l : LineNo) (s : State) (t0 : Nat) (rec : PreemptRecord), s.running = true → (s.line l).state = .break →
     (s.line l).enteredAt + 1000 ≤ s.now → s.access.state = .preempt t0 l rec → rec.phase = .break →
     exec (.breakEnd l) s = .next { s.setLine l (fun ln =>
       { ln with
         state := .held, enteredAt := s.now, periodOver := false
         sampledOnhook := none, qualifiedOnhook := none, deadRunStart := none
         sampledCurrent := none, currentSince := s.now, qualifiedCurrent := some .none, qualifiedCurrentSince := s.now
         sharedFromSole := false, lossGiven := false
         holder := some .access, checkStart := some s.now, occupant := none, noYield := false
         seizes := min (ln.seizes + 1) 65535 }) with access := ⟨.check t0 l, s.access.cursor⟩ })
    ∧ ∀ (by_ : Holder) (kind : ReleaseKind) (l : LineNo) (s : State),
        let t := releaseLine by_ kind l s
        ((s.line l).holder ≠ some by_ ∨ (s.line l).state.taken = false ∨ ((s.line l).state = .break ∧ kind = .brk) → t = s)
          ∧ ((s.line l).holder = some by_ → (s.line l).state.taken = true → ¬ ((s.line l).state = .break ∧ kind = .brk) →
              (t.line l).state = (if kind = .brk then .break else .guard) ∧ (t.line l).enteredAt = s.now
                ∧ (t.line l).holder = (if kind = .brk then some .access else none)
                ∧ (kind ≠ .brk → (t.line l).noYield = decide (kind = .noYield) ∧ (t.line l).receiverSince = s.now
                    ∧ (t.line l).dialHeard = false ∧ (t.line l).handshakeHeard = false ∧ (t.line l).ackHeard = false
                    ∧ (t.line l).toSilence = false)
                ∧ ((∀ f, (s.line l).formerReceiver = some f → f.ended < s.now) → ∀ time, Hears l time s → Hears l time t)
                ∧ ((s.line l).state = .held → (t.line l).checkStart = none ∧ (t.line l).qualifiedCurrent = none
                    ∧ (t.line l).qualifiedOnhook = none ∧ (t.line l).deadRunStart = none
                    ∧ (∀ p, t.tone.sounding = some p → p.1.line ≠ l) ∧ (∀ r ∈ t.tone.waiting, r.line ≠ l))
                ∧ (∀ m, m ≠ l → t.line m = s.line m) ∧ OnlyAccess s t ∧ t.access = s.access ∧ t.listener = s.listener)

/-- An intrusion, SHARED for 50 ms after SOLE outside a check window, and a loop loss, NONE for 500 ms, go to the line's holder
once for their run. The access controller passes both on with a grant, and a loop loss while DEMANDING gives the line up with a
plain release and T0 kept; in its other states it does nothing. A loop loss ends a call LOOP_LOST, and an intrusion pauses it
(R64, R65, R87, R93, R97, R110, R112). That a run of SHARED begun in the last 20 ms of a check window that ended CLEAR is reported too,
at its 50 ms point, is the model's choice (DEDUCED, log entry 28). -/
def Obligations.Held_line_events : Prop :=
  (∀ (l : LineNo) (s : State), s.running = true → (s.line l).state = .held →
    ((s.line l).checkStart = none → (s.line l).sampledCurrent = some .shared → (s.line l).sharedFromSole = true →
        (s.line l).currentSince + 50 ≤ s.now →
        let s1 := s.setLine l fun ln => { ln with sharedFromSole := false }
        exec (.intrusion l) s = .next (match (s.line l).holder with
          | some .access => accessIntrusion s1
          | some .call => if s.call.line = some l then pauseCall s1 else s1
          | none => s1))
      ∧ ((s.line l).sampledCurrent = some .none → (s.line l).lossGiven = false → (s.line l).currentSince + 500 ≤ s.now →
          let s1 := s.setLine l fun ln => { ln with lossGiven := true }
          exec (.loopLoss l) s = .next (match (s.line l).holder with
            | some .access => accessLoopLoss s1
            | some .call => if s.call.line = some l then callLoopLoss s1 else s1
            | none => s1)))
    ∧ ∀ s : State,
        let passing (x : HeldReport) (other : State) : State := match s.access.state with
          | .granted t0 l q passed => { s with access := ⟨.granted t0 l q (passed ++ [x]), s.access.cursor⟩ }
          | _ => other
        accessIntrusion s = passing .intrusion s
          ∧ accessLoopLoss s = passing .loopLoss (match s.access.state with
              | .preempt t0 l rec =>
                if rec.phase = .demanding then chooseLine t0 (releaseLine .access .plain l s) else s
              | _ => s)
          ∧ callLoopLoss s = (if s.call.state = .idle ∨ s.call.state = .closing then s else endCall .loopLost s)
          ∧ pauseCall s = (if s.call.state.pausable then
              s.setCall fun c =>
                { c with
                  state := .paused, gapEnd := none, inPauseMark := false
                  pause := some ⟨c.state, s.now + 1000, none, false⟩ }
            else if s.call.state = .paused then
              s.setCall fun c => { c with pause := c.pause.map fun p => { p with pauseEnd := s.now + 1000 } }
            else s)

/-- On a line that is not held, a report goes to the peer listener: a symbol of 40 ms or more to its decoder; DIAL, BUSY, HANDSHAKE
and ACK break a stream, an ACK then being judged; the ends of tones change the receiver's own record only. On any line a report outside
its limits has no effect: of a symbol under 40 ms, a frequency out of tolerance, a BUSY period outside 200 to 450 ms, of a sound that
the receiver does not hear, as on an UNFITTED line and while the part's own tone sounds, of an end without its beginning, or of
SILENCE too early. A pair, in either order, each within 2 per cent, is the symbol of its row and column, and any other pair is none
(R66 to R68, R125, R130, R169). That a report which has not arisen has no effect is the model's choice (DESIGN CHOICE, log entry 7);
so are what is heard of a sound that spans a receiver's start, a report at the instant of a change of receiver, an end needing its
beginning, and SILENCE needing a receiver that has classified for its 300 ms (DEDUCED, log entry 9). -/
def Obligations.Tones_reach_peer_listener : Prop :=
  (∀ (l : LineNo) (s : State), (s.line l).state.taken = false →
      let noted (f : Line → Line) : State := s.setLine l fun ln => { f ln with toSilence := true, lastHeard := s.now }
      (∀ p d, Hears l d s → 40 ≤ d → exec (.symbolReport l p d) s = .next (match TonePair.sym p with
          | some y => peerSymbol l y d (noted id)
          | none => s))
        ∧ (Hears l 500 s → ∀ f, 3500 ≤ f → f ≤ 5000 →
            exec (.dialRecognised l f) s = .next (discardStream l (noted fun ln => { ln with dialHeard := true })))
        ∧ (∀ f c, Hears l (c.on1 + c.off1 + c.on2 + c.off2) s → 3500 ≤ f → f ≤ 5000 →
            (∀ x ∈ [c.on1, c.off1, c.on2, c.off2], 200 ≤ x ∧ x ≤ 450) →
              exec (.busyReport l f c) s = .next (discardStream l (noted id)))
        ∧ (Hears l 300 s → ∀ f, 13720 ≤ f → f ≤ 14280 →
            exec (.handshakeRecognised l f) s = .next (discardStream l (noted fun ln => { ln with handshakeHeard := true })))
        ∧ (Hears l 400 s → ∀ f, 22540 ≤ f → f ≤ 23460 →
            exec (.ackRecognised l f) s = .next (peerAck l (discardStream l (noted fun ln => { ln with ackHeard := true }))))
        ∧ (Hears l 0 s → (s.line l).dialHeard = true → ∀ d, 500 ≤ d →
            exec (.dialEnd l d) s = .next (noted fun ln => { ln with dialHeard := false }))
        ∧ (Hears l 0 s → (s.line l).handshakeHeard = true → ∀ d, 300 ≤ d →
            exec (.handshakeEnd l d) s = .next (noted fun ln => { ln with handshakeHeard := false }))
        ∧ (Hears l 0 s → (s.line l).ackHeard = true → ∀ d, 400 ≤ d →
            exec (.ackEnd l d) s = .next (noted fun ln => { ln with ackHeard := false }))
        ∧ (Hears l 300 s → (s.line l).toSilence = true → (s.line l).lastHeard + 300 ≤ s.now → (s.line l).dialHeard = false →
            (s.line l).handshakeHeard = false → (s.line l).ackHeard = false →
              exec (.silenceReport l) s = .next (discardStream l (s.setLine l fun ln => { ln with toSilence := false }))))
    ∧ (∀ (l : LineNo) (s : State),
        let progress (f : Nat) : Prop := 3500 ≤ f ∧ f ≤ 5000
        (∀ p d, ¬ Hears l d s ∨ d < 40 ∨ TonePair.sym p = none → exec (.symbolReport l p d) s = .next s)
          ∧ (∀ f, ¬ Hears l 500 s ∨ ¬ progress f → exec (.dialRecognised l f) s = .next s)
          ∧ (∀ f c, ¬ Hears l (c.on1 + c.off1 + c.on2 + c.off2) s ∨ ¬ progress f
              ∨ (∃ x ∈ [c.on1, c.off1, c.on2, c.off2], x < 200 ∨ 450 < x) → exec (.busyReport l f c) s = .next s)
          ∧ (∀ f, ¬ Hears l 300 s ∨ f < 13720 ∨ 14280 < f → exec (.handshakeRecognised l f) s = .next s)
          ∧ (∀ f, ¬ Hears l 400 s ∨ f < 22540 ∨ 23460 < f → exec (.ackRecognised l f) s = .next s)
          ∧ (∀ d, ¬ Hears l 0 s ∨ (s.line l).dialHeard = false ∨ d < 500 → exec (.dialEnd l d) s = .next s)
          ∧ (∀ d, ¬ Hears l 0 s ∨ (s.line l).handshakeHeard = false ∨ d < 300 → exec (.handshakeEnd l d) s = .next s)
          ∧ (∀ d, ¬ Hears l 0 s ∨ (s.line l).ackHeard = false ∨ d < 400 → exec (.ackEnd l d) s = .next s)
          ∧ (¬ Hears l 300 s ∨ (s.line l).toSilence = false ∨ s.now < (s.line l).lastHeard + 300 ∨ (s.line l).dialHeard = true
              ∨ (s.line l).handshakeHeard = true ∨ (s.line l).ackHeard = true → exec (.silenceReport l) s = .next s)
          ∧ ∀ time, (s.line l).state = .unfitted ∨ s.running = false
              ∨ (∃ r ends, s.tone.sounding = some (r, ends) ∧ r.line = l ∧ ends < s.now + r.duration) → ¬ Hears l time s)
    ∧ let near (nominal f : Nat) : Prop := 98 * nominal ≤ 10 * f ∧ 10 * f ≤ 102 * nominal
      let table : List (Nat × Nat × Sym) :=
        [(697, 1209, .digit 1), (697, 1336, .digit 2), (697, 1477, .digit 3), (697, 1633, .a),
          (770, 1209, .digit 4), (770, 1336, .digit 5), (770, 1477, .digit 6), (770, 1633, .b),
          (852, 1209, .digit 7), (852, 1336, .digit 8), (852, 1477, .digit 9), (852, 1633, .c),
          (941, 1209, .star), (941, 1336, .digit 0), (941, 1477, .hash), (941, 1633, .d)]
      (∀ row ∈ table, Sym.pair row.2.2 = ⟨10 * row.1, 10 * row.2.1⟩
          ∧ ∀ low high, near row.1 low → near row.2.1 high →
              TonePair.sym ⟨low, high⟩ = some row.2.2 ∧ TonePair.sym ⟨high, low⟩ = some row.2.2)
        ∧ ∀ a b, (∀ row ∈ table, ¬ (near row.1 a ∧ near row.2.1 b) ∧ ¬ (near row.1 b ∧ near row.2.1 a)) →
            TonePair.sym ⟨a, b⟩ = none

/-- On the line of a call the reports go to the call engine: DIAL begins dialling, BUSY while awaiting the handshake ends the
call, the end of the handshake sets the lead-in 250 ms later, and an ACK counts only for the block in flight. In a pause each acts
as in the state paused from, but a DIAL is noted and its deadline dropped; what the table of R113 does not name has no effect there.
A symbol outside a pause, the end of DIAL and SILENCE change the receiver's own record only, and so does every report on a taken line
that is not the call's (R67, R96, R100 to R103, R105, R107, R113, R114). That an ACK in a pause from SENDING_BLOCK has no effect is the
model's reading (DEDUCED, log entry 23), and so are what of a sound is heard, that an end needs its beginning, and that SILENCE needs a
receiver that has classified for its 300 ms (DEDUCED, log entry 9). -/
def Obligations.Tones_reach_call_engine : Prop :=
  (∀ (l : LineNo) (s : State), (s.line l).state = .held → s.call.line = some l →
      let noted (f : Line → Line) : State := s.setLine l fun ln => { f ln with toSilence := true, lastHeard := s.now }
      let pausedFrom (st : CallState) : Prop := s.call.state = .paused ∧ ∃ p, s.call.pause = some p ∧ p.from_ = st
      let working (st : CallState) : Prop := (s.call.state = st ∧ st ≠ .paused) ∨ pausedFrom st
      (Hears l 500 s → ∀ f, 3500 ≤ f → f ≤ 5000 →
          let heard := noted fun ln => { ln with dialHeard := true }
          (s.call.state = .dialtoneWait →
              exec (.dialRecognised l f) s = .next (dialSymbol (heard.setCall fun c =>
                { c with state := .dialling, dialDeadline := none, position := 0 })))
            ∧ (pausedFrom .dialtoneWait → exec (.dialRecognised l f) s = .next (heard.setCall fun c =>
                { c with dialDeadline := none, pause := c.pause.map fun p => { p with dialNoted := true } }))
            ∧ (¬ working .dialtoneWait → exec (.dialRecognised l f) s = .next heard))
        ∧ (∀ f c, Hears l (c.on1 + c.off1 + c.on2 + c.off2) s → 3500 ≤ f → f ≤ 5000 →
            (∀ x ∈ [c.on1, c.off1, c.on2, c.off2], 200 ≤ x ∧ x ≤ 450) →
              (working .awaitHandshake → exec (.busyReport l f c) s = .next (endCall .destBusy (noted id)))
                ∧ (¬ working .awaitHandshake → exec (.busyReport l f c) s = .next (noted id)))
        ∧ (Hears l 300 s → ∀ f, 13720 ≤ f → f ≤ 14280 →
            let heard := noted fun ln => { ln with handshakeHeard := true }
            (working .awaitHandshake → exec (.handshakeRecognised l f) s = .next (heard.setCall fun c =>
                { c with progress := .recognised }))
              ∧ (¬ working .awaitHandshake → exec (.handshakeRecognised l f) s = .next heard))
        ∧ (Hears l 0 s → (s.line l).handshakeHeard = true → ∀ d, 300 ≤ d →
            let heard := noted fun ln => { ln with handshakeHeard := false }
            (working .awaitHandshake → exec (.handshakeEnd l d) s = .next (heard.setCall fun c =>
                { c with progress := .ended s.now, handshakeDeadline := none, leadIn := some (s.now + 250) }))
              ∧ (¬ working .awaitHandshake → exec (.handshakeEnd l d) s = .next heard))
        ∧ (Hears l 400 s → ∀ f, 22540 ≤ f → f ≤ 23460 →
            let heard := noted fun ln => { ln with ackHeard := true }
            let counts : Prop := s.call.inFlight = true
              ∧ ((∃ d, s.call.ackDeadline = some d ∧ s.now ≤ d) ∨ s.call.ackExpired = some s.now)
            ((working .awaitAck ∨ s.call.state = .sendingBlock) → counts →
                exec (.ackRecognised l f) s = .next (countAck heard))
              ∧ (¬ ((working .awaitAck ∨ s.call.state = .sendingBlock) ∧ counts) →
                exec (.ackRecognised l f) s = .next heard))
        ∧ (Hears l 0 s → (s.line l).ackHeard = true → ∀ d, 400 ≤ d →
            let heard := noted fun ln => { ln with ackHeard := false }
            let awaited : Prop := working .awaitAck ∧ s.call.ackEndAwaited = true ∧ ∃ due, s.call.leadIn = some due ∧ s.now ≤ due
            (awaited → exec (.ackEnd l d) s = .next (heard.setCall fun c =>
                { c with leadIn := some (s.now + 250), ackEndAwaited := false }))
              ∧ (¬ awaited → exec (.ackEnd l d) s = .next heard))
        ∧ (∀ p d y, Hears l d s → 40 ≤ d → TonePair.sym p = some y → s.call.state ≠ .paused →
            exec (.symbolReport l p d) s = .next (noted id))
        ∧ (Hears l 0 s → (s.line l).dialHeard = true → ∀ d, 500 ≤ d →
            exec (.dialEnd l d) s = .next (noted fun ln => { ln with dialHeard := false }))
        ∧ (Hears l 300 s → (s.line l).toSilence = true → (s.line l).lastHeard + 300 ≤ s.now → (s.line l).dialHeard = false →
            (s.line l).handshakeHeard = false → (s.line l).ackHeard = false →
              exec (.silenceReport l) s = .next (s.setLine l fun ln => { ln with toSilence := false })))
    ∧ ∀ (l : LineNo) (s : State), (s.line l).state.taken = true → s.call.line ≠ some l →
        let noted (f : Line → Line) : State := s.setLine l fun ln => { f ln with toSilence := true, lastHeard := s.now }
        (∀ p d y, Hears l d s → 40 ≤ d → TonePair.sym p = some y → exec (.symbolReport l p d) s = .next (noted id))
          ∧ (Hears l 500 s → ∀ f, 3500 ≤ f → f ≤ 5000 →
              exec (.dialRecognised l f) s = .next (noted fun ln => { ln with dialHeard := true }))
          ∧ (∀ f c, Hears l (c.on1 + c.off1 + c.on2 + c.off2) s → 3500 ≤ f → f ≤ 5000 →
              (∀ x ∈ [c.on1, c.off1, c.on2, c.off2], 200 ≤ x ∧ x ≤ 450) → exec (.busyReport l f c) s = .next (noted id))
          ∧ (Hears l 300 s → ∀ f, 13720 ≤ f → f ≤ 14280 →
              exec (.handshakeRecognised l f) s = .next (noted fun ln => { ln with handshakeHeard := true }))
          ∧ (Hears l 400 s → ∀ f, 22540 ≤ f → f ≤ 23460 →
              exec (.ackRecognised l f) s = .next (noted fun ln => { ln with ackHeard := true }))
          ∧ (Hears l 0 s → (s.line l).dialHeard = true → ∀ d, 500 ≤ d →
              exec (.dialEnd l d) s = .next (noted fun ln => { ln with dialHeard := false }))
          ∧ (Hears l 0 s → (s.line l).handshakeHeard = true → ∀ d, 300 ≤ d →
              exec (.handshakeEnd l d) s = .next (noted fun ln => { ln with handshakeHeard := false }))
          ∧ (Hears l 0 s → (s.line l).ackHeard = true → ∀ d, 400 ≤ d →
              exec (.ackEnd l d) s = .next (noted fun ln => { ln with ackHeard := false }))
          ∧ (Hears l 300 s → (s.line l).toSilence = true → (s.line l).lastHeard + 300 ≤ s.now → (s.line l).dialHeard = false →
              (s.line l).handshakeHeard = false → (s.line l).ackHeard = false →
                exec (.silenceReport l) s = .next (s.setLine l fun ln => { ln with toSilence := false }))

/-- A sent tone is finished at its end: its line's receiver resumes, and the next request in order starts. The 80 ms gap of a dialled
digit or the 60 ms gap of a block symbol begins when no request is left; a demand's D leaves a gap of 200 ms, and its class digit
400 ms to a further demand, three in all (R68, R90, R101, R103). That the next tone forgets a HANDSHAKE or ACK in progress, and that
no earlier receiver is kept, are the model's choices (DEDUCED, log entry 9). -/
def Obligations.Tone_finishes : Prop :=
  ∀ (s : State) (r : ToneRequest) (ends : Nat), s.running = true → s.tone.sounding = some (r, ends) → ends ≤ s.now →
    let resumed := s.setLine r.line fun ln => { ln with receiverSince := s.now, formerReceiver := none }
    let next : State := match s.tone.waiting with
      | [] => { resumed with tone := ⟨none, []⟩ }
      | n :: rest =>
        { resumed.setLine n.line fun ln => { ln with handshakeHeard := false, ackHeard := false } with
          tone := ⟨some (n, s.now + n.duration), rest⟩ }
    let demand (rec : PreemptRecord) : PreemptRecord :=
      if r.sym = .d then { rec with gapEnd := some (s.now + 200) }
      else if rec.demands < 3 then { rec with nextDemand := some (s.now + 400) } else rec
    exec .toneRequestDone s = .next { next with
      access := { s.access with state := match s.access.state with
        | .preempt t0 l rec => .preempt t0 l (if l = r.line ∧ rec.phase = .demanding then demand rec else rec)
        | a => a }
      call := if s.call.line = some r.line ∧ s.tone.waiting = [] then match s.call.state with
          | .dialling => { s.call with gapEnd := some (s.now + 80) }
          | .sendingBlock => { s.call with gapEnd := some (s.now + 60) }
          | _ => s.call
        else s.call }

/-! ### The call (chapter 5) -/

/-- At the take of a grant the call engine becomes the line's holder, forms its batch from the granted head and up to three
companions in queue order, which go to IN_CALL, and enters DIALTONE_WAIT with its deadline 4 s later; with DIAL already heard it
dials at once, and the reports passed with the grant follow in the order received (R97, R98). That these are taken with the take as
their instant, so that an intrusion's pause ends 1000 ms after the take, and after DIAL has been, so that it may pause the call from
DIALLING, is the model's reading of R97 (DEDUCED, log entry 17). -/
def Obligations.Grant_is_taken : Prop :=
  ∀ (s : State) (t0 : Nat) (l : LineNo) (r : Report) (passed : List HeldReport), s.running = true →
    s.access.state = .granted t0 l r.seq passed → s.call.state = .idle → s.report r.seq = some r →
    let dest := s.settings.currentDest r
    let seqs := (r.seq :: (s.queue.reports.filter fun x => decide (x.seq ≠ r.seq ∧ x.state = .queued ∧ x.eligibleAt ≤ s.clock
      ∧ (∃ m, (s.line m).fitted = true ∧ (s.settings.masks.get x.matter.cls).getLsbD m.val = true)
      ∧ (s.settings.routes.get x.matter.cls).first ≠ none ∧ s.settings.currentDest x = dest
      ∧ (s.settings.masks.get x.matter.cls).getLsbD l.val = true)).map (·.seq)).take 4
    let taken (head : Option Nat) : State :=
      { s with
        access := ⟨.idle, s.access.cursor⟩
        lines := (s.setLine l fun ln => { ln with holder := some .call }).lines
        queue := { s.queue with
          reports := s.queue.reports.map fun x => if x.seq ∈ seqs then { x with state := .inCall } else x
          head := head }
        call := { freshCall with
          state := .dialtoneWait, line := some l, dest := dest, batch := seqs.map fun q => ⟨q, 0⟩
          dialDeadline := some (s.now + 4000) } }
    let base := taken (taken none).firstEligible
    exec .takeGrant s = .next (passed.foldl
      (fun t x => match x with
        | .currentChange _ => t
        | .intrusion => pauseCall t
        | .loopLoss => callLoopLoss t)
      (if (s.line l).dialHeard then
        dialSymbol (base.setCall fun c => { c with state := .dialling, dialDeadline := none, position := 0 })
      else base))

/-- The end of a dialled digit's gap, or of a pause mark's 2 s, sends the destination's next digit for 80 ms, waits out the next
pause mark, or, past the last symbol, awaits the handshake for 40 s (R101, R102). That the tone forgets a HANDSHAKE or ACK in progress
is the model's choice (DEDUCED, log entry 9). -/
def Obligations.Dialling_goes_on : Prop :=
  ∀ (s : State) (l : LineNo) (g : Nat), s.running = true → s.call.state = .dialling → s.call.gapEnd = some g → g ≤ s.now →
    s.call.line = some l → (s.line l).state = .held → s.tone.sounding = none →
    let syms : List DialSym := match s.call.dest with
      | some d => s.settings.dest d
      | none => []
    let pos := if s.call.inPauseMark then s.call.position + 1 else s.call.position
    exec .dialGapEnd s = .next (match syms[pos]? with
      | some (.digit d) =>
        { s.setLine l (fun ln => { ln with handshakeHeard := false, ackHeard := false }) with
          call := { s.call with position := pos + 1, gapEnd := none, inPauseMark := false }
          tone := ⟨some (⟨l, .digit d, 80⟩, s.now + 80), s.tone.waiting⟩ }
      | some .pause => s.setCall fun c => { c with position := pos, gapEnd := some (s.now + 2000), inPauseMark := true }
      | none => s.setCall fun c =>
          { c with
            state := .awaitHandshake, position := pos, gapEnd := none, inPauseMark := false
            handshakeDeadline := some (s.now + 40000), progress := .none })

/-- The lead-in's end sends the opening *; each symbol lasts 60 ms, and its gap's end sends the next, or ends the block: the sends
rise by one, to at most four, and 1.5 s are given for its ACK. At that deadline with fewer than four sends the block begins again, in a pause at
its end (R102, R103, R106, R107, R113). That a tone forgets a HANDSHAKE or ACK in progress is the model's choice (DEDUCED, log entry
9). -/
def Obligations.Block_is_sent : Prop :=
  ∀ (s : State) (l : LineNo) (e : BatchEntry) (rest : List BatchEntry) (r : Report), s.running = true →
    s.call.batch = e :: rest → s.report e.seq = some r → s.call.line = some l → (s.line l).state = .held →
    s.tone.sounding = none →
    let sends (y : Sym) (c : Call) : State :=
      { s.setLine l (fun ln => { ln with handshakeHeard := false, ackHeard := false }) with
        call := c, tone := ⟨some (⟨l, y, 60⟩, s.now + 60), s.tone.waiting⟩ }
    let begun : Call := { s.call with
      state := .sendingBlock, inFlight := true, position := 1, gapEnd := none, leadIn := none, ackDeadline := none
      ackEndAwaited := false, resendDue := false }
    (∀ d, s.call.state = .awaitHandshake ∨ s.call.state = .awaitAck → s.call.leadIn = some d → d ≤ s.now →
        exec .leadInDue s = .next (sends .star begun))
      ∧ (∀ g, s.call.state = .sendingBlock → s.call.gapEnd = some g → g ≤ s.now →
          exec .blockSymbolGapEnd s = .next (match (blockSyms s.settings r.matter)[s.call.position]? with
            | some y => sends y { s.call with position := s.call.position + 1, gapEnd := none }
            | none => s.setCall fun c =>
                { c with
                  state := .awaitAck, gapEnd := none, batch := { e with sends := min (e.sends + 1) 4 } :: rest
                  ackDeadline := some (s.now + 1500) }))
      ∧ (∀ d, s.call.state = .awaitAck → s.call.ackDeadline = some d → d ≤ s.now → e.sends < 4 →
          exec .ackDeadline s = .next (sends .star { begun with ackExpired := some s.now }))
      ∧ ∀ d p, s.call.state = .paused → s.call.pause = some p → p.from_ = .awaitAck → s.call.ackDeadline = some d →
          d ≤ s.now → e.sends < 4 →
            exec .ackDeadline s = .next (s.setCall fun c =>
              { c with ackDeadline := none, ackExpired := some s.now, resendDue := true })

/-- The symbols of a block: the opening *, 13 or 17 information digits, the check symbol and the closing #. The digits are the account
(four), the station number (two), the class digit, the qualifier, the event code (three), the group (two) and the value (four) when
there is one, each with leading zeros (section 10.2). The check symbol is the
remainder on division by 13 of the sum of i times the i-th information digit, 10, 11 and 12 being A, B and C; a heard block is
valid only with that check (R104). -/
def Obligations.Check_symbol_of_a_block : Prop :=
  let sum (info : List Nat) : Nat := ((List.range info.length).map fun i => (i + 1) * info.getD i 0).sum
  let check (info : List Nat) : Sym :=
    if sum info % 13 = 10 then .a else if sum info % 13 = 11 then .b else if sum info % 13 = 12 then .c
    else .digit (Fin.ofNat 10 (sum info % 13))
  (∀ (set : Settings) (m : Matter),
     let digits (width n : Nat) : List Nat := (List.range width).map fun i => n / 10 ^ (width - 1 - i) % 10
     let qualifier := match m.qualifier with
       | .alarm => 1
       | .alarmValue => 2
       | .restore => 3
       | .restoreValue => 4
       | .reassert => 5
       | .status => 6
     let info := digits 4 set.account ++ digits 2 set.station ++ [m.cls.rank, qualifier] ++ digits 3 m.event ++ digits 2 m.group
       ++ match m.value with
         | some v => digits 4 v
         | none => []
     (info.length = if m.value.isSome then 17 else 13) ∧ (∀ v ∈ info, v ≤ 9)
       ∧ blockSyms set m = .star :: info.map (fun v => .digit (Fin.ofNat 10 v)) ++ [check info, .hash])
    ∧ ∀ (syms : List Sym) (b : HeardBlock), judgeStream syms = some b →
        ∃ info : List Nat, (info.length = 13 ∨ info.length = 17) ∧ (∀ v ∈ info, v ≤ 9)
          ∧ syms = info.map (fun v => .digit (Fin.ofNat 10 v)) ++ [check info]

/-- The block of a report, heard by a peer, is valid and gives back the account, the station number, and the report's class,
qualifier, event code and group, with each at every value it may have (R103, R104). The places of the fields in the block are those
of R103; R124's words place the station number elsewhere, and the model follows R103 (DEDUCED, log entry 22). -/
def Obligations.Block_reads_back : Prop :=
  ∀ (set : Settings) (m : Matter), 1 ≤ set.station → set.station ≤ 31 → set.account ≤ 9999 → 100 ≤ m.event → m.event ≤ 399 →
    m.group ≤ 99 → (∀ v, m.value = some v → v ≤ 9999) →
    (m.value.isSome ↔ m.qualifier = .alarmValue ∨ m.qualifier = .restoreValue ∨ (m.qualifier = .status ∧ m.event = 310)) →
      ∃ syms, blockSyms set m = .star :: syms ++ [.hash] ∧ syms.length ≤ 18
        ∧ judgeStream syms = some ⟨set.account, set.station, m.cls, m.qualifier, m.event, m.group⟩

/-- The dial deadline ends the call NO_DIAL_TONE, the handshake deadline NO_ANSWER, and the ACK deadline after four sends NO_ACK,
each in a pause from its state too (R100, R102, R106, R113). -/
def Obligations.Call_deadlines_end_the_call : Prop :=
  ∀ (s : State) (d : Nat), s.running = true → d ≤ s.now →
    let working (st : CallState) : Prop :=
      s.call.state = st ∨ (s.call.state = .paused ∧ ∃ p, s.call.pause = some p ∧ p.from_ = st)
    (working .dialtoneWait → s.call.dialDeadline = some d → exec .dialDeadline s = .next (endCall .noDialTone s))
      ∧ (working .awaitHandshake → s.call.handshakeDeadline = some d →
          exec .handshakeDeadline s = .next (endCall .noAnswer s))
      ∧ ∀ e rest, working .awaitAck → s.call.ackDeadline = some d → s.call.batch = e :: rest → 4 ≤ e.sends →
          exec .ackDeadline s = .next (endCall .noAck s)

/-- A call that ends releases its line into GUARD and clears its context; an acquisition starts for a head with T0 now. Without a
charge every report of the batch returns QUEUED, eligible now, or in 5 s after an abort, its contention raised after a yield or an
intrusion, and the head is decided anew. At a charged cause every report of the batch has a charged return, in their order, before the context is cleared and the
acquisition starts. A charged return waits 5 s times its attempts, at most 60 s; at its class maximum, which its
attempts never exceed, it rests and COMM_FAIL becomes active
(R40 to R42, R45, R73, R108, R109, R144). That all this falls in the one step that ends the call is the model's reading (DEDUCED, log
entry 11), and so is that a report coming to rest has COMM_FAIL's begin report handed before those behind it return (DEDUCED, log
entry 12). -/
def Obligations.Call_ends : Prop :=
  (∀ (cause : EndCause) (l : LineNo) (s : State), s.call.line = some l → (s.line l).state = .held →
      (s.line l).holder = some .call →
      let t := endCall cause s
      let charged : Prop := cause = .noDialTone ∨ cause = .destBusy ∨ cause = .noAnswer ∨ cause = .noAck ∨ cause = .loopLost
      let seqs := s.call.batch.map (·.seq)
      t.call = freshCall ∧ (t.line l).state = .guard ∧ (t.line l).holder = none ∧ (t.line l).noYield = false
        ∧ t.settings = s.settings ∧ t.channels = s.channels ∧ t.port = s.port
        ∧ (s.access.state = .idle → t.headReport.isSome → t.access.state.t0 = some s.now)
        ∧ ((∀ r ∈ s.queue.reports, r.state = .inCall → r.seq ∈ seqs) → ∀ r ∈ t.queue.reports, r.state ≠ .inCall)
        ∧ (let closing : State := releaseLine .call .plain l { s with call := { s.call with state := .closing } };
           let left (returned : State) : State :=
             let u : State := { returned with call := freshCall }
             if u.access.state = .idle ∧ u.headReport.isSome then chooseLine s.now u else u
           (charged →
              let returned := s.call.batch.foldl (fun u e => returnCharged e.seq u) closing
              t.queue = returned.queue ∧ t.trouble = returned.trouble ∧ t = left returned)
            ∧ (¬ charged →
                let back : State := { closing with queue := { s.queue with reports := s.queue.reports.map fun x =>
                  if x.seq ∈ seqs then
                    { x with
                      state := .queued, eligibleAt := if cause = .maintAbort then s.clock + 5 else s.clock
                      contention := if cause = .yielded ∨ cause = .intruded then min (x.contention + seqs.count x.seq) 15
                        else x.contention }
                  else x } }
                let returned : State :=
                  if s.call.batch = [] then back else { back with queue := { back.queue with head := back.headFirst } }
                t.trouble = s.trouble ∧ t.queue = returned.queue ∧ t = left returned)))
    ∧ ∀ (seq : Nat) (r : Report) (s : State), s.call.state = .closing → s.report seq = some r →
        let n := r.attempts + 1
        let back (f : Report → Report) : State :=
          let s1 := s.setReport seq f
          { s1 with queue := { s1.queue with head := s1.firstEligible } }
        if n < s.settings.maxima.get r.matter.cls then
          returnCharged seq s = back fun x => { x with state := .queued, attempts := n, eligibleAt := s.clock + min (5 * n) 60 }
        else
          returnCharged seq s = tellTrouble .commFail true (back fun x =>
              { x with
                  state := .resting, attempts := s.settings.maxima.get r.matter.cls
                  restEnd := some (s.clock + 60 * s.settings.restMinutes) })
            ∧ ((returnCharged seq s).cond .commFail).active = true

/-- An ACK that counts: the block in flight is delivered, its report written to the history with the call's line and destination, the
head decided anew and the freed place used. The next block waits for the end of the ACK or for 3 s (that the 3 s are set at the
recognition is DEDUCED, log entry 19; that the call context is updated, and a call at its end releases its line, before the delivery
and the use of the freed place is DEDUCED, log entry 11, and the head before the look at the count log entry 12); with no report left the call has ended, and COMM_FAIL with it if nothing rests; with the
suspend mark set it ends and the others return without charge. The freed place: at 24 or fewer an overflow in force ends, and while
there is room the report pending longest is handed, and so on (R37, R39, R105, R107, R108, R121, R143, R144). -/
def Obligations.Acknowledged_block_is_delivered : Prop :=
  (∀ (s : State) (l : LineNo) (d : DestId) (e : BatchEntry) (rest : List BatchEntry) (r : Report),
    s.call.state = .awaitAck ∨ s.call.state = .sendingBlock ∨ s.call.state = .paused →
    s.call.batch = e :: rest → s.report e.seq = some r → s.call.line = some l → s.call.dest = some d →
    (s.line l).state = .held → (s.line l).holder = some .call →
    let left := s.queue.reports.filter fun x => decide (x.seq ≠ e.seq)
    let after (head : Option Nat) : Queue :=
      { s.queue with reports := left, history := s.historyWith ⟨e.seq, r.matter, .delivered l d, s.clock⟩, head := head }
    let acked : Call := { s.call with
      state := if s.call.state = .paused then .paused else .awaitAck
      batch := rest, inFlight := false, gapEnd := none, ackDeadline := none, ackExpired := none, resendDue := false
      leadIn := some (s.now + 3000), ackEndAwaited := true }
    let delivered (u : State) : State :=
      afterRemoval { u with queue := { after none with head := ({ u with queue := after none }).firstEligible } }
    let ended := delivered (releaseLine .call .plain l { s with call := { acked with state := .closing } })
    let leave (u : State) : State :=
      let v : State := { u with call := freshCall }
      if v.access.state = .idle ∧ v.headReport.isSome then chooseLine v.now v else v
    let returned (head : Option Nat) : State :=
      { ended with queue := { ended.queue with
          head := head
          reports := ended.queue.reports.map fun x =>
            if x.seq ∈ rest.map (·.seq) then { x with state := .queued, eligibleAt := s.clock } else x } }
    let t := countAck s
    (rest ≠ [] → s.call.suspend = false → t = delivered { s with call := acked })
      ∧ (rest = [] →
          t = leave (if ∃ x ∈ ended.queue.reports, x.state = .resting then ended else tellTrouble .commFail false ended))
      ∧ (rest ≠ [] → s.call.suspend = true → t = leave (returned (returned none).firstEligible))
      ∧ (rest = [] ∨ s.call.suspend = true →
          t.call = freshCall ∧ (t.line l).state = .guard ∧ (t.line l).holder = none)
      ∧ (s.queue.overflowMark = false → (∀ c, (s.cond c).pending = none) →
          (rest ≠ [] → s.call.suspend = false →
              t = { s with queue := after ({ s with queue := after none }).firstEligible, call := acked })
            ∧ (rest = [] → (s.cond .commFail).active = false → t.queue = after t.queue.head ∧ t.trouble = s.trouble)
            ∧ (rest ≠ [] → s.call.suspend = true → t.trouble = s.trouble
                ∧ t.queue = { after t.queue.head with
                    reports := left.map fun x =>
                      if x.seq ∈ rest.map (·.seq) then { x with state := .queued, eligibleAt := s.clock } else x })))
    ∧ ∀ s : State,
        (let ended : State := if s.queue.reports.length ≤ 24 ∧ s.queue.overflowMark = true then
            tellTrouble .queueOverflow false { s with queue := { s.queue with overflowMark := false } } else s;
          (32 ≤ s.queue.reports.length → afterRemoval s = s)
            ∧ (s.queue.reports.length < 32 → afterRemoval s = handPending (32 - ended.queue.reports.length) ended))
          ∧ (∀ n, n = 0 ∨ (∀ c, (s.cond c).pending = none) → handPending n s = s)
          ∧ ∀ n c p, (s.cond c).pending = some p → s.queue.reports.length < 32 →
              (∀ b q, b ≠ c → (s.cond b).pending = some q → p.order < q.order) →
                handPending (n + 1) s = handPending n ((handReport p.matter s).setCond c fun x => { x with pending := none })

/-- An intrusion pauses a call for 1 s and moves a pause's end. In a pause a D of 500 ms or more is noted, and a class digit begun
within 300 ms of its end completes a demand: the call yields to a strictly more urgent class and otherwise resumes. At the pause's
end a call that was dialling ends INTRUDED, and any other resumes where it was (R112 to R117). That a pause from DIALLING after the
last symbol resumes into AWAIT_HANDSHAKE at once, with 40 s from there, is the model's reading (DEDUCED, log entry 26). -/
def Obligations.Pause_of_a_call : Prop :=
  ∀ (s : State),
    pauseCall s = (if s.call.state.pausable then
        s.setCall fun c =>
          { c with state := .paused, gapEnd := none, inPauseMark := false, pause := some ⟨c.state, s.now + 1000, none, false⟩ }
      else if s.call.state = .paused then
        s.setCall fun c => { c with pause := c.pause.map fun p => { p with pauseEnd := s.now + 1000 } }
      else s)
    ∧ ∀ p, s.running = true → s.call.state = .paused → s.call.pause = some p →
        (let back := s.setCall fun c => { c with state := p.from_, pause := none };
          let leadIn : Prop := ∃ d, s.call.leadIn = some d ∧ d ≤ s.now;
          (p.from_ = .dialtoneWait → resumeCall s = if p.dialNoted then
              dialSymbol (back.setCall fun c => { c with state := .dialling, dialDeadline := none, position := 0 }) else back)
            ∧ (p.from_ = .dialling → resumeCall s = dialSymbol back)
            ∧ (p.from_ = .sendingBlock → resumeCall s = beginBlock back)
            ∧ (p.from_ = .awaitHandshake → (leadIn → resumeCall s = beginBlock back) ∧ (¬ leadIn → resumeCall s = back))
            ∧ (p.from_ = .awaitAck → (leadIn ∨ s.call.resendDue = true → resumeCall s = beginBlock back)
                ∧ (¬ leadIn → s.call.resendDue = false → resumeCall s = back)))
          ∧ (p.pauseEnd ≤ s.now →
              exec .pauseEnd s = .next (if p.from_ = .dialling then endCall .intruded s else resumeCall s))
          ∧ ∀ l pair y duration, s.call.line = some l → (s.line l).state = .held → Hears l duration s → 40 ≤ duration →
              TonePair.sym pair = some y →
              let noted := s.setLine l fun ln => { ln with toSilence := true, lastHeard := s.now }
              (y = .d → exec (.symbolReport l pair duration) s = .next (noted.setCall fun c =>
                  { c with pause := some { p with dEnded := if 500 ≤ duration then some s.now else none } }))
                ∧ (∀ c e h, y.classOf = some c → p.dEnded = some e → s.now - duration ≤ e + 300 → s.batchHead = some h →
                    exec (.symbolReport l pair duration) s = .next (
                      if c.rank < h.matter.cls.rank then endCall .yielded noted else resumeCall noted))
                ∧ (y ≠ .d → y.classOf = none ∨ p.dEnded = none ∨ (∃ e, p.dEnded = some e ∧ e + 300 < s.now - duration) →
                    exec (.symbolReport l pair duration) s = .next (noted.setCall fun c =>
                      { c with pause := some { p with dEnded := none } }))

/-! ### Listening to peers (chapter 6) -/

/-- The peer listener's decoder: * begins a stream, and a symbol that follows in time joins it, to the eighteenth; # judges it;
*, D, a symbol begun more than 300 ms after the last and a nineteenth break it and count it garbled, and are then taken alone. A D
of 500 ms or more is noted, and a class digit begun within 300 ms of its end names its class to the line, which takes it as its
occupant class only when OCCUPIED and only for another class, and tells the access controller (R58, R69, R78, R123 to R126). -/
def Obligations.Peer_symbols : Prop :=
  (∀ (l : LineNo) (k : ReportClass) (s : State), TakesOccupant l k s (setOccupant l k s))
  ∧ ∀ (l : LineNo) (y : Sym) (duration : Nat) (s : State),
    let alone (u : State) : State :=
      if y = .star then u.setDecoder l fun d => { d with stream := some ⟨[], s.now⟩, dEnded := none }
      else if y = .d then u.setDecoder l fun d => { d with dEnded := if 500 ≤ duration then some s.now else none }
      else
        let v := u.setDecoder l fun d => { d with dEnded := none }
        match (s.decoder l).dEnded, y.classOf with
        | some e, some c => if s.now - duration ≤ e + 300 then setOccupant l c v else v
        | _, _ => v
    ((s.decoder l).stream = none → peerSymbol l y duration s = alone s)
      ∧ ∀ st, (s.decoder l).stream = some st →
          let late := st.latestEnd + 300 < s.now - duration
          let broken : State :=
            let u := s.setDecoder l fun d => { d with stream := none }
            if (s.line l).state = .unfitted then u
            else u.setLine l fun ln => { ln with garbled := min (ln.garbled + 1) 65535 }
          discardStream l s = broken
            ∧ (y = .star ∨ y = .d ∨ late ∨ (y ≠ .hash ∧ 18 ≤ st.syms.length) → peerSymbol l y duration s = alone broken)
            ∧ (y ≠ .star → y ≠ .d → ¬ late → y ≠ .hash → st.syms.length < 18 →
                peerSymbol l y duration s = s.setDecoder l fun d => { d with stream := some ⟨st.syms ++ [y], s.now⟩ })
            ∧ (y = .hash → ¬ late → peerSymbol l y duration s = match judgeStream st.syms with
                | some b => takeBlock l b (s.setDecoder l fun d => { d with stream := none })
                | none => broken)

/-- A valid block: its class is named to the line, which takes it as its occupant class only when OCCUPIED and only for another class,
and its acknowledgement is awaited for 1.5 s. A peer's ALARM or RESTORE of a class that can be covered is placed newest in the heard
table, in place of a matching entry, or of the oldest of 16, and an awaiting acknowledgement of another line that named that entry names
nothing from then on. This station's own account and number make the clash active for 600 s
from now, and the trouble unit is told if it was not (R58, R78, R127, R128, R131). -/
def Obligations.Block_heard : Prop :=
  ∀ (l : LineNo) (b : HeardBlock) (s : State), s.heardSound →
    let t := takeBlock l b s
    let s1 := setOccupant l b.cls s
    let own := b.account = s.settings.account
    let key : HeardKey := ⟨b.station, b.cls, b.qualifier.kind, b.event, b.group⟩
    let nothingNamed := s1.setDecoder l fun d => { d with awaiting := some ⟨s.now + 1500, none⟩ }
    TakesOccupant l b.cls s s1
      ∧ (¬ own ∨ (b.station ≠ s.settings.station ∧ (2 < b.cls.rank ∨ b.qualifier = .status)) → t = nothingNamed)
      ∧ (own → b.station = s.settings.station →
          let clash : State :=
            { nothingNamed with listener := { nothingNamed.listener with clashEnd := some (s.clock + 600) } }
          t = (if s.listener.clashEnd.isSome then clash else tellTrouble .stationClash true clash)
            ∧ (t.decoder l).awaiting = some ⟨s.now + 1500, none⟩
            ∧ (s.listener.clashEnd = none → (t.cond .stationClash).active = true))
      ∧ (own → b.station ≠ s.settings.station → b.cls.rank ≤ 2 → b.qualifier ≠ .status →
          (t.decoder l).awaiting = some ⟨s.now + 1500, some key⟩
            ∧ (let others := s.listener.heard.filter fun e => decide (e.key ≠ key);
                t.listener.heard = others.drop (others.length - 15) ++ [⟨key, s.clock, false, 0⟩])
            ∧ (∀ m, m ≠ l → t.decoder m = { s1.decoder m with awaiting := (s1.decoder m).awaiting.map fun a =>
                match a.names with
                | some k => if k = key ∨ k ∉ t.listener.heard.map (·.key) then { a with names := none } else a
                | none => a })
            ∧ t.queue = s1.queue ∧ t.lines = s1.lines ∧ t.access = s1.access ∧ t.trouble = s1.trouble)

/-- An ACK on a line where one is awaited: it counts up to its deadline, the entry it names becomes acknowledged, and, as the
standing word of a shared group, covers every own report of its class, kind and group, not IN_CALL, whose occurred time lies
within the coverage window of its heard time; each in queue order is written COVERED with its station, the head decided anew and the
freed place used (that pending trouble reports are then handed before a re-assert is DEDUCED, log entry 12). After that a RESTORE
raises the re-assert of the lowest channel it contradicts, unless an ALARM of the class and group is owed (R37, R39, R47, R130, R132,
R133, R135). -/
def Obligations.Peer_acknowledgement_counts : Prop :=
  ∀ (l : LineNo) (s : State) (a : Awaiting), (s.decoder l).awaiting = some a →
    let took := s.setDecoder l fun d => { d with awaiting := none }
    (a.deadline < s.now → peerAck l s = s)
      ∧ (s.now ≤ a.deadline → a.names = none → peerAck l s = took)
      ∧ ∀ e, s.now ≤ a.deadline → a.names = some e.key → s.heardSound → s.queueSound → e ∈ s.listener.heard →
          let order := s.listener.ackCount + 1
          let word : HeardEntry := { e with acknowledged := true, ackOrder := order }
          let marked : State := { took with listener := { took.listener with
            heard := s.listener.heard.map (fun x => if x.key = e.key then word else x), ackCount := order } }
          let covered (r : Report) : Bool := decide (r.state ≠ .inCall ∧ r.matter.cls = e.key.cls ∧ e.key.cls.rank ≤ 2
            ∧ r.matter.qualifier.kind = e.key.kind ∧ r.matter.group = e.key.group
            ∧ e.heard ≤ r.matter.occurred + s.settings.coverage ∧ r.matter.occurred ≤ e.heard + s.settings.coverage)
          let contradicted (c : ChannelNo) : Bool := decide ((s.chan c).state = .alarm ∧ (s.chan c).bypass = false
            ∧ (s.chanSettings c).cls = e.key.cls ∧ (s.chanSettings c).group = e.key.group)
          let stands := e.key.group ≠ 0 ∧ e.key.group ∈ s.settings.shared
            ∧ marked.standingWord e.key.cls e.key.group = some word
          (peerAck l s).listener.heard = marked.listener.heard
            ∧ (¬ stands → peerAck l s = marked)
            ∧ (stands → e.key.kind ≠ .restore → s.queue.overflowMark = false → (∀ c, (s.cond c).pending = none) →
                (peerAck l s).queue.reports = s.queue.reports.filter (fun r => !covered r)
                  ∧ (let all := s.queue.history ++ (s.queue.reports.filter covered).map fun r =>
                        ⟨r.seq, r.matter, .covered e.key.station, s.clock⟩;
                      (peerAck l s).queue.history = all.drop (all.length - 64))
                  ∧ (peerAck l s).trouble = s.trouble)
            ∧ (stands →
                let cover (u : State) (r : Report) : State :=
                  match u.report r.seq with
                  | some x =>
                    if x.state = .inCall then u
                    else afterRemoval (State.headAnew { u with queue := { u.queue with
                      reports := u.queue.reports.filter fun y => decide (y.seq ≠ x.seq)
                      history := u.historyWith ⟨x.seq, x.matter, .covered e.key.station, u.clock⟩ } })
                  | none => u
                let u := (s.queue.reports.filter covered).foldl cover marked
                let owedAlarm : Bool := u.queue.reports.any fun r => decide (r.matter.cls = e.key.cls
                  ∧ r.matter.group = e.key.group ∧ r.matter.qualifier.kind = .alarm)
                peerAck l s = match allChannels.find? contradicted with
                  | none => u
                  | some c => if e.key.kind ≠ .restore ∨ owedAlarm then u else
                      handReport ⟨e.key.cls, .reassert, (s.chanSettings c).event, e.key.group, .channel c, none, s.clock⟩
                        (u.setChan c fun ch => { ch with lastKind := .alarm }))

/-- The clash ends at its end and the trouble unit is told; an awaited acknowledgement lapses at its deadline; a heard entry lapses
once the clock is past its heard time plus the coverage window, and an acknowledgement that named it names nothing (R129 to
R131). -/
def Obligations.Listener_deadlines : Prop :=
  ∀ s : State, s.running = true →
    (∀ e, s.listener.clashEnd = some e → e ≤ s.clock →
        exec .clashEnd s = .next (tellTrouble .stationClash false { s with listener := { s.listener with clashEnd := none } }))
      ∧ (∀ l a, (s.decoder l).awaiting = some a → a.deadline ≤ s.now →
          exec (.awaitingAckDeadline l) s = .next (s.setDecoder l fun d => { d with awaiting := none }))
      ∧ ∀ e ∈ s.listener.heard, e.heard + s.settings.coverage < s.clock →
          exec (.heardEntryExpiry e.key) s = .next { s with listener := { s.listener with
            heard := s.listener.heard.filter fun x => decide (x.key ≠ e.key)
            decoders := s.listener.decoders.map fun d =>
              { d with awaiting := d.awaiting.map fun a => if a.names = some e.key then { a with names := none } else a } } }

/-! ### The maintenance port (chapter 9) -/

/-- The read commands answer their data lines and OK, each line with CR and LF at 10/9600 s to a character, and change nothing else:
the newest n of the history in the order written, one line a channel, ERR ARGUMENT for a number outside the range. During a start
a command has no effect, during an answer its line waits in the buffer of 64 characters, and where its line does not fit there it is
answered ERR OVERLONG (whole commands, and an answer's end reckoned in 24ths of a millisecond, are the model's choice: DESIGN
CHOICE, log entries 14 and 15). The fields of each data line stand in the order of section 10.5, separated by single spaces (R161 to
R164, R168, R171). The hyphens of an unknown occupant, no gate and no band yet are the model's reading (DEDUCED, log entry 16), and so
are the cap of entered-at at 4294967295 (DEDUCED, log entry 6) and milliseconds as the unit in which CHAN writes the debounce (DEDUCED,
log entry 29). -/
def Obligations.Port_reads : Prop :=
  (∀ s : State,
    let answer (ls : List Text) : State := { s with port := { s.port with
      answer := some ⟨ls, 24 * s.now + 25 * (ls.map fun t => t.length + 2).sum, false⟩ } }
    let ok (ls : List Text) : State := answer (ls ++ ["OK".toList])
    let num := Nat.toDigits 10
    let commands (n : Nat) : List (Instr × Text) :=
      [(.ident, "IDENT".toList), (.status, "STATUS".toList), (.queue, "QUEUE".toList), (.lines, "LINES".toList),
        (.trouble, "TROUBLE".toList), (.hist n, "HIST ".toList ++ num n), (.chan n, "CHAN ".toList ++ num n),
        (.ack, "ACK".toList), (.test, "TEST".toList), (.abort, "ABORT".toList), (.restart, "RESTART".toList),
        (.bypass n, "BYPASS ".toList ++ num n), (.unbypass n, "UNBYPASS ".toList ++ num n)]
    let fits (length : Nat) : Prop := s.port.held + length ≤ 64
    (s.running = true → s.port.answer = none →
        (fits 5 → exec .ident s = .next (ok [identLine s])) ∧ (fits 6 → exec .status s = .next (ok [statusLine s]))
          ∧ (fits 5 → exec .queue s = .next (ok (s.queue.reports.map (queueLine s))))
          ∧ (fits 5 → exec .lines s = .next (ok (allLines.map (lineLine s))))
          ∧ (fits 7 → exec .trouble s = .next (ok (allConditions.map (troubleLine s))))
          ∧ (∀ n, 1 ≤ n → n ≤ 64 → fits (5 + (num n).length) →
              exec (.hist n) s = .next (ok ((s.queue.history.drop (s.queue.history.length - n)).map histLine)))
          ∧ (∀ n, n = 0 ∨ 64 < n → fits (5 + (num n).length) → exec (.hist n) s = .next (answer ["ERR ARGUMENT".toList]))
          ∧ (∀ c : ChannelNo, fits 6 → exec (.chan (c.val + 1)) s = .next (ok [chanLine s c]))
          ∧ ∀ n, n = 0 ∨ 8 < n → fits (5 + (num n).length) → exec (.chan n) s = .next (answer ["ERR ARGUMENT".toList]))
      ∧ ∀ n, ∀ p ∈ commands n,
          (s.running = false → exec p.1 s = .next s)
            ∧ (s.running = true → s.port.answer = none → ¬ fits p.2.length → exec p.1 s = .next (answer ["ERR OVERLONG".toList]))
            ∧ (s.running = true → s.port.answer.isSome →
                let room := 64 - s.port.held
                exec p.1 s = .next { s with port := { s.port with
                  waiting := s.port.waiting ++ [⟨p.2.take room, decide (room < p.2.length)⟩] } }))
    ∧ ∀ s : State,
        let num := Nat.toDigits 10
        let padded (width n : Nat) : Text := List.replicate (width - (num n).length) '0' ++ num n
        let join (fields : List Text) : Text := [' '].intercalate fields
        let orHyphen : Option Text → Text := fun x => x.getD ['-']
        let mark (b : Bool) : Text := if b then ['Y'] else ['N']
        let report (seq : Nat) (m : Matter) : List Text :=
          [num seq, ReportClass.text m.cls, num m.qualifier.code, num m.event, padded 2 m.group, orHyphen (m.value.map num), num m.occurred]
        identLine s = join ["ID".toList, "Asvanor".toList, "Vothel-DL-48".toList, "B".toList, padded 10 s.unique.toNat,
            num s.loader.imageVersion, num s.loader.clampCount, num s.settings.station, padded 4 s.settings.account]
          ∧ statusLine s = join ["ST".toList, s.access.state.text, s.call.state.text, num s.queue.reports.length,
              num s.queue.overflow, num s.trouble.missedTests, num s.clock]
          ∧ (∀ r, queueLine s r = join (["Q".toList] ++ report r.seq r.matter
              ++ [r.state.text, num r.eligibleAt, orHyphen (r.restEnd.map num), num r.attempts, num r.contention,
                mark r.reassert, orHyphen ((s.settings.currentDest r).map DestId.text)]))
          ∧ (∀ e, histLine e = join (["H".toList] ++ report e.seq e.matter ++ [e.fate.text, num e.finish]
              ++ match e.fate with
                | .delivered l d => [num (l.val + 1), d.text, ['-']]
                | .covered peer => [['-'], ['-'], num peer]
                | _ => [['-'], ['-'], ['-']]))
          ∧ (∀ l, let ln := s.line l
              (ln.state = .unfitted → lineLine s l = join (["L".toList, num (l.val + 1), ln.state.text]
                ++ List.replicate 6 ['-'] ++ [num ln.seizes, num ln.collisions, num ln.garbled]))
                ∧ (ln.state ≠ .unfitted → lineLine s l = join ["L".toList, num (l.val + 1), ln.state.text,
                    num (min (ln.enteredAt / 1000) 4294967295), orHyphen (ln.faultCause.map FaultCause.text),
                    if ln.state = .held then orHyphen (ln.qualifiedCurrent.map CurrentBand.text)
                    else orHyphen (ln.qualifiedOnhook.map OnhookBand.text),
                    orHyphen (ln.occupant.map ReportClass.text), mark ln.noYield, mark ln.noLoop,
                    num ln.seizes, num ln.collisions, num ln.garbled]))
          ∧ (∀ c, let ch := s.chan c
              let set := s.chanSettings c
              chanLine s c = join ["C".toList, num (c.val + 1), set.mode.text, ch.state.text, ch.sampled.text,
                num ch.transients, num ch.pulses, num ch.hold, num ch.peak, mark ch.bypass, ReportClass.text set.cls, num set.event,
                padded 2 set.group, num set.debounce, num set.confirm, num set.restore, num set.window, num set.windows,
                num set.setHigh, num set.setLow, orHyphen (set.gate.map fun g => num (g.val + 1)), mark set.restoreReporting])
          ∧ (∀ c, let x := s.cond c
              let name : Text := match c with
                | .channelOpen n => "OPEN-".toList ++ num (n.val + 1)
                | .channelShort n => "SHORT-".toList ++ num (n.val + 1)
                | .lineDead n => "LINE_DEAD-".toList ++ num (n.val + 1)
                | .lineNoLoop n => "LINE_NO_LOOP-".toList ++ num (n.val + 1)
                | .commFail => "COMM_FAIL".toList
                | .queueOverflow => "QUEUE_OVERFLOW".toList
                | .stationClash => "STATION_CLASH".toList
                | .configDefaulted => "CONFIG_DEFAULTED".toList
              troubleLine s c = join ["T".toList, name, mark x.active, mark x.unacknowledged, orHyphen (x.since.map num),
                num x.occurrences, orHyphen (x.pending.map fun p => num p.matter.qualifier.code)])
          ∧ let names {α : Type} (text : α → Text) (l : List (α × String)) : Prop := ∀ p ∈ l, text p.1 = p.2.toList
            names ReportClass.text [(.fire, "FIRE"), (.sprinkler, "SPRINKLER"), (.boiler, "BOILER"), (.trouble, "TROUBLE"),
                (.test, "TEST")]
              ∧ names Mode.text [(.disabled, "DISABLED"), (.contact, "CONTACT"), (.flow, "FLOW"), (.count, "COUNT")]
              ∧ names ChannelState.text [(.disabled, "DISABLED"), (.normal, "NORMAL"), (.confirming, "CONFIRMING"),
                (.alarm, "ALARM"), (.restoring, "RESTORING"), (.fault, "FAULT")]
              ∧ names Band.text [(.short, "SHORT"), (.active, "ACTIVE"), (.normal, "NORMAL"), (.opened, "OPEN")]
              ∧ names DestId.text [(.d1, "D1"), (.d2, "D2"), (.d3, "D3")]
              ∧ names ReportState.text [(.queued, "QUEUED"), (.inCall, "IN_CALL"), (.resting, "RESTING")]
              ∧ (∀ l d peer, names Fate.text [(.delivered l d, "DELIVERED"), (.covered peer, "COVERED"), (.dropped, "DROPPED"),
                (.notRouted, "NOT_ROUTED")])
              ∧ names LineState.text [(.unfitted, "UNFITTED"), (.settling, "SETTLING"), (.idle, "IDLE"), (.occupied, "OCCUPIED"),
                (.suspect, "SUSPECT"), (.faulted, "FAULTED"), (.held, "HELD"), (.break, "BREAK"), (.guard, "GUARD")]
              ∧ names OnhookBand.text [(.dead, "DEAD"), (.occupied, "OCCUPIED"), (.idle, "IDLE")]
              ∧ names CurrentBand.text [(.none, "NONE"), (.shared, "SHARED"), (.sole, "SOLE")]
              ∧ names FaultCause.text [(.dead, "DEAD"), (.noLoop, "NO_LOOP")]
              ∧ (∀ t since waited l h base deadline rec q passed, names AccessState.text [(.idle, "AC_IDLE"),
                (.wait t since waited, "AC_WAIT"), (.holdoff t l h base deadline, "AC_HOLDOFF"), (.check t l, "AC_CHECK"),
                (.preempt t l rec, "AC_PREEMPT"), (.granted t l q passed, "AC_GRANTED")])
              ∧ names CallState.text [(.idle, "CE_IDLE"), (.dialtoneWait, "DIALTONE_WAIT"), (.dialling, "DIALLING"),
                (.awaitHandshake, "AWAIT_HANDSHAKE"), (.sendingBlock, "SENDING_BLOCK"), (.awaitAck, "AWAIT_ACK"),
                (.paused, "PAUSED"), (.closing, "CLOSING")]

/-- ACK ends the unacknowledged mark of every inactive condition. TEST hands a TEST report of event 321, or answers ERR PENDING
while one is in the queue. ABORT ends an acquisition, its head eligible 5 s later and the head decided anew, for which a line is then
chosen with T0 now, and a call, without charge; with neither it
answers ERR NOCALL. RESTART is answered OK with a start to follow (R46, R73, R95, R111, R145, R163, R165 to R168). Whole commands, and an
answer's end reckoned in 24ths of a millisecond, are the model's choice (DESIGN CHOICE, log entries 14 and 15); a command line that
the buffer has no room for is another statement's. -/
def Obligations.Port_acts : Prop :=
  ∀ s : State, s.running = true → s.port.answer = none →
    let sending (lines : List Text) (restart : Bool) : Port := { s.port with
      answer := some ⟨lines, 24 * s.now + 25 * (lines.map fun t => t.length + 2).sum, restart⟩ }
    let fits (length : Nat) : Prop := s.port.held + length ≤ 64
    let ok : Port := sending ["OK".toList] false
    (fits 3 → ∃ t, exec .ack s = .next t ∧ t.port = ok
        ∧ (∀ c, t.cond c = if (s.cond c).active then s.cond c else { s.cond c with unacknowledged := false })
        ∧ t = { s with port := t.port, trouble := { s.trouble with list := t.trouble.list } })
      ∧ ((∃ r ∈ s.queue.reports, r.matter.cls = .test ∧ r.matter.event = 321) → fits 4 →
          exec .test s = .next { s with port := sending ["ERR PENDING".toList] false })
      ∧ ((∀ r ∈ s.queue.reports, ¬ (r.matter.cls = .test ∧ r.matter.event = 321)) → fits 4 →
          exec .test s = .next { handReport ⟨.test, .status, 321, 0, .unit, none, s.clock⟩ s with port := ok })
      ∧ (s.access.state = .idle → s.inCall = false → fits 5 →
          exec .abort s = .next { s with port := sending ["ERR NOCALL".toList] false })
      ∧ (s.access.state = .idle → s.inCall = true → fits 5 →
          exec .abort s = .next { endCall .maintAbort s with port := ok })
      ∧ (s.access.state ≠ .idle → s.call.state = .idle → fits 5 →
          ∃ t, exec .abort s = .next t ∧ t.port = ok ∧ t.trouble = s.trouble
          ∧ (∀ l, s.access.state.holds.map (·.1) = some l → (s.line l).holder = some .access → (s.line l).state.taken = true →
              (t.line l).state = .guard ∧ (t.line l).holder = none)
          ∧ (let released : State := match s.access.state.holds with
              | some (l, _, _) => releaseLine .access .plain l s
              | none => s;
             let idle : State := { released with access := ⟨.idle, s.access.cursor⟩ };
             (s.queue.head = none → t = { idle with port := ok } ∧ t.queue = s.queue)
              ∧ ∀ q, s.queue.head = some q →
                  let deferred : State := { idle with queue := { s.queue with reports := s.queue.reports.map fun x =>
                    if x.seq = q then { x with eligibleAt := s.clock + 5 } else x } }
                  let decided : State := { deferred with queue := { deferred.queue with head := deferred.headFirst } }
                  t.queue = decided.queue ∧ t = { if deferred.headFirst.isSome then chooseLine s.now decided else decided with port := ok })
          ∧ (s.queue.head.isSome → t.headReport = none → t.access.state = .idle)
          ∧ (t.access.state ≠ .idle → t.access.state.t0 = some s.now))
      ∧ (fits 7 → exec .restart s = .next { s with port := sending ["OK".toList] true })

/-- BYPASS sets the bypass of a channel that is not DISABLED and hands a TROUBLE report of event 330, qualifier 1; UNBYPASS clears
it, hands the end report, and then the report the channel owes, if its state disagrees with its last queued kind; on a channel
already so neither does anything; DISABLED or no channel is ERR ARGUMENT (R4, R20, R21, R163, R165). Whole commands, and an answer's
end reckoned in 24ths of a millisecond, are the model's choice (DESIGN CHOICE, log entries 14 and 15); a command line that the buffer
has no room for is another statement's. -/
def Obligations.Bypass_requests : Prop :=
  ∀ (n : Nat) (s : State), s.running = true → s.port.answer = none →
    let answer (line : String) (u : State) : State := { u with port := { u.port with
      answer := some ⟨[line.toList], 24 * u.now + 25 * (line.length + 2), false⟩ } }
    let report (c : ChannelNo) (q : Qualifier) : Matter := ⟨.trouble, q, 330, c.val + 1, .channel c, none, s.clock⟩
    let fits (name : String) : Prop := s.port.held + name.length + 1 + (Nat.toDigits 10 n).length ≤ 64
    (n = 0 ∨ 8 < n ∨ (∃ c : ChannelNo, n = c.val + 1 ∧ (s.chan c).state = .disabled) →
        (fits "BYPASS" → exec (.bypass n) s = .next (answer "ERR ARGUMENT" s))
          ∧ (fits "UNBYPASS" → exec (.unbypass n) s = .next (answer "ERR ARGUMENT" s)))
      ∧ ∀ c : ChannelNo, n = c.val + 1 → (s.chan c).state ≠ .disabled →
          ((s.chan c).bypass = true → fits "BYPASS" → exec (.bypass n) s = .next (answer "OK" s))
            ∧ ((s.chan c).bypass = true → fits "UNBYPASS" →
                let u := handReport (report c .restore) (s.setChan c fun ch => { ch with bypass := false })
                exec (.unbypass n) s = .next (answer "OK" (
                  if (s.chan c).state = .alarm ∧ (s.chan c).lastKind = .restore then handChannel c .alarm none u
                  else if (s.chan c).state = .normal ∧ (s.chan c).lastKind = .alarm
                    ∧ (s.chanSettings c).restoreReporting = true then handChannel c .restore none u
                  else u)))
            ∧ ((s.chan c).bypass = false → fits "UNBYPASS" → exec (.unbypass n) s = .next (answer "OK" s))
            ∧ ((s.chan c).bypass = false → fits "BYPASS" → exec (.bypass n) s = .next (answer "OK"
                (handReport (report c .alarm) (s.setChan c fun ch => { ch with bypass := true }))))

/-- The input line: a printable character is appended while 64 are not held, and otherwise lost, the line marked overlong; BS takes
the last away; CR completes the line, which is taken at once or waits behind an answer; any other character, one with a framing
error and one during a start are lost. A line taken: ERR OVERLONG if marked so; nothing if blank; ERR UNKNOWN if its first word, in
any letter case, names no command; ERR ARGUMENT if the others do not fit it; and otherwise what the command does, which an answer
shows. The answer's end takes the oldest waiting line that is not blank, the others behind it waiting on, and its answer begins
where the last one ended; after RESTART a start begins, with all that it abandons and puts out (R158, R159, R161 to R163, R168). Whole
commands and 24ths of a millisecond are the model's choice (DESIGN CHOICE, log entries 14 and 15), and so are ERR OVERLONG for an
overlong line that is blank and a number read with leading zeros (DEDUCED, log entry 16). -/
def Obligations.Characters_and_answers : Prop :=
  (∀ s : State,
    let rec_ := s.port.receiving
    (∀ code : Byte, exec (.characterReceived code true) s = .next s
        ∧ (s.running = false → exec (.characterReceived code false) s = .next s))
      ∧ (s.running = true → ∀ code : Byte, exec (.characterReceived code false) s = .next (
          if 32 ≤ code.toNat ∧ code.toNat ≤ 126 then
            { s with port := { s.port with receiving :=
                if s.port.held < 64 then ⟨rec_.chars ++ [Char.ofNat code.toNat], rec_.overlong⟩ else ⟨rec_.chars, true⟩ } }
          else if code = 13 then
            let emptied : State := { s with port := { s.port with receiving := ⟨[], false⟩ } }
            if s.port.answer.isSome then { emptied with port := { emptied.port with waiting := s.port.waiting ++ [rec_] } }
            else takeLine rec_ emptied
          else if code = 8 then
            { s with port := { s.port with receiving := ⟨rec_.chars.dropLast, rec_.overlong⟩ } }
          else s))
      ∧ ∀ a, s.running = true → s.port.answer = some a → a.ends ≤ 24 * s.now →
          (let quiet : State := { s with port := { s.port with answer := none } };
            let blank (w : PortLine) : Prop := w.overlong = false ∧ ∀ x ∈ w.chars, x = ' ';
            (a.restart = false → (∀ w ∈ s.port.waiting, blank w) →
                exec .answerEnd s = .next { s with port := { s.port with answer := none, waiting := [] } })
              ∧ (a.restart = false → ∀ before w rest, s.port.waiting = before ++ w :: rest → (∀ b ∈ before, blank b) →
                  let taken := takeLine w quiet
                  taken.port.answer ≠ none →
                    exec .answerEnd s = .next { taken with port := { taken.port with
                      waiting := rest
                      answer := taken.port.answer.map fun b => { b with ends := b.ends - (24 * s.now - a.ends) } } }))
            ∧ (a.restart = true → ∃ u, InStart s u ∧ u.supply = s.supply ∧ u.pinLow = s.pinLow ∧ u.startCause = .restart
                ∧ ∃ t, exec .answerEnd s = .next t
                  ∧ (s.supply = .up → s.pinLow = false →
                      t = { u with phase := .reading s.now, loader := { s.loader with clampCount := 0 } })
                  ∧ (s.supply ≠ .up ∨ s.pinLow = true → t = u)
                  ∧ t.clock = 0 ∧ t.troubleRelay = false ∧ t.troubleLamp = .dark
                  ∧ (∀ l, t.relayClosed l = false ∧ t.lineLamp l = .dark) ∧ (∀ c, t.channelLamp c = .dark)))
    ∧ (let words := wordsFrom []
       ∀ (n : Nat) (w rest : Text), w ≠ [] → ' ' ∉ w →
         words (List.replicate n ' ') = [] ∧ words (List.replicate n ' ' ++ w) = [w]
           ∧ words (List.replicate n ' ' ++ w ++ ' ' :: rest) = w :: words rest)
    ∧ ∀ (chars : Text) (s : State),
        let error (e : String) : State := { s with port := { s.port with
          answer := some ⟨[e.toList], 24 * s.now + 25 * (e.length + 2), false⟩ } }
        let plain : List (Instr × String) := [(.ident, "IDENT"), (.status, "STATUS"), (.queue, "QUEUE"), (.lines, "LINES"),
          (.trouble, "TROUBLE"), (.ack, "ACK"), (.test, "TEST"), (.abort, "ABORT"), (.restart, "RESTART")]
        let numbered : List ((Nat → Instr) × String) :=
          [(.hist, "HIST"), (.chan, "CHAN"), (.bypass, "BYPASS"), (.unbypass, "UNBYPASS")]
        let number (w : Text) : Prop := w ≠ [] ∧ ∀ x ∈ w, '0' ≤ x ∧ x ≤ '9'
        let value (w : Text) : Nat := w.foldl (fun n x => 10 * n + (x.toNat - '0'.toNat)) 0
        takeLine ⟨chars, true⟩ s = error "ERR OVERLONG"
          ∧ (wordsFrom [] chars = [] → takeLine ⟨chars, false⟩ s = s)
          ∧ ∀ first args, wordsFrom [] chars = first :: args →
              let name := String.ofList (first.map Char.toUpper)
              (name ∉ plain.map (·.2) ++ numbered.map (·.2) → takeLine ⟨chars, false⟩ s = error "ERR UNKNOWN")
                ∧ (∀ p ∈ plain, name = p.2 →
                    (args ≠ [] → takeLine ⟨chars, false⟩ s = error "ERR ARGUMENT")
                      ∧ (args = [] → s.running = true → s.port.answer = none → s.port.held + p.2.length ≤ 64 →
                          exec p.1 s = .next (takeLine ⟨chars, false⟩ s)))
                ∧ ∀ p ∈ numbered, name = p.2 →
                    ((∀ w, args = [w] → ¬ number w) → takeLine ⟨chars, false⟩ s = error "ERR ARGUMENT")
                      ∧ ∀ w, args = [w] → number w → s.running = true → s.port.answer = none →
                          s.port.held + p.2.length + 1 + (Nat.toDigits 10 (value w)).length ≤ 64 →
                            exec (p.1 (value w)) s = .next (takeLine ⟨chars, false⟩ s)

/-! ### What every step keeps -/

/-- The part right after reset is sound (the values of the settings and of the records before the first image read are the model's
choice: log entry 5). -/
def Obligations.Reset_is_sound : Prop := State.reset.sound

/-- Every step keeps the working settings in their ranges and every count within its maximum, among them a report's attempts within
its class maximum, its sends within four and the demands of a preemption within three (sections 1.1, 5.4 and 8.1; R41, R90, R106). -/
def Obligations.Steps_keep_counts : Prop :=
  ∀ s t : State, s.bounded → step s = .next t → t.bounded

/-- Every step keeps the queue in its order, at most 32 reports long, each with its own number, and the history at most 64 (R28,
R29, R34, R48). -/
def Obligations.Steps_keep_queue : Prop :=
  ∀ s t : State, s.queueSound → step s = .next t → t.queueSound

/-- Every step keeps the line records sound, at most one line HELD or in BREAK, tones on a HELD line only, and the access
controller and the call engine the holders of just the lines their states name (R51, R52, R59, R62, R68, R87, R97). -/
def Obligations.Steps_keep_lines : Prop :=
  ∀ s t : State, s.linesSound → s.holdersSound → s.callSound → step s = .next t → t.linesSound ∧ t.holdersSound

/-- Every step keeps the batch within four entries and empty in CE_IDLE, every IN_CALL report in it, and a call with its line and
destination beside an idle access controller (R38, R44, R96, R98). -/
def Obligations.Steps_keep_call : Prop :=
  ∀ s t : State, s.callSound → step s = .next t → t.callSound

/-- Every step keeps the heard table within 16 entries, oldest first and alike in no two, where the part is past the beginning of a
start only with its supply up and its start pin high, which every step keeps too; and the port's buffer within 64 characters (R128,
R129, R151, R158, R161, R162). -/
def Obligations.Steps_keep_heard_and_port : Prop :=
  ∀ s t : State, step s = .next t →
    (s.startSound → t.startSound ∧ (s.heardSound → t.heardSound)) ∧ (s.portSound → t.portSound)

end
end

