-- ==== Sys2Proof/Laws/State.lean ====
section
/-! SUPPORT. What each named update of the state leaves: one lemma per field per update, and reading a record just written. -/

namespace Sys2Proof.Machine
section
variable (s : State) (c : ChannelNo) (f : Channel → Channel)
@[simp] theorem State.setChan_now : (s.setChan c f).now = s.now := rfl
@[simp] theorem State.setChan_supply : (s.setChan c f).supply = s.supply := rfl
@[simp] theorem State.setChan_pinLow : (s.setChan c f).pinLow = s.pinLow := rfl
@[simp] theorem State.setChan_phase : (s.setChan c f).phase = s.phase := rfl
@[simp] theorem State.setChan_startCause : (s.setChan c f).startCause = s.startCause := rfl
@[simp] theorem State.setChan_unique : (s.setChan c f).unique = s.unique := rfl
@[simp] theorem State.setChan_settings : (s.setChan c f).settings = s.settings := rfl
@[simp] theorem State.setChan_loader : (s.setChan c f).loader = s.loader := rfl
@[simp] theorem State.setChan_queue : (s.setChan c f).queue = s.queue := rfl
@[simp] theorem State.setChan_lines : (s.setChan c f).lines = s.lines := rfl
@[simp] theorem State.setChan_tone : (s.setChan c f).tone = s.tone := rfl
@[simp] theorem State.setChan_access : (s.setChan c f).access = s.access := rfl
@[simp] theorem State.setChan_call : (s.setChan c f).call = s.call := rfl
@[simp] theorem State.setChan_listener : (s.setChan c f).listener = s.listener := rfl
@[simp] theorem State.setChan_trouble : (s.setChan c f).trouble = s.trouble := rfl
@[simp] theorem State.setChan_port : (s.setChan c f).port = s.port := rfl
@[simp] theorem State.setChan_choices : (s.setChan c f).choices = s.choices := rfl
@[simp] theorem State.setChan_pending : (s.setChan c f).pending = s.pending := rfl
end

section
variable (s : State) (l : LineNo) (f : Line → Line)
@[simp] theorem State.setLine_now : (s.setLine l f).now = s.now := rfl
@[simp] theorem State.setLine_supply : (s.setLine l f).supply = s.supply := rfl
@[simp] theorem State.setLine_pinLow : (s.setLine l f).pinLow = s.pinLow := rfl
@[simp] theorem State.setLine_phase : (s.setLine l f).phase = s.phase := rfl
@[simp] theorem State.setLine_startCause : (s.setLine l f).startCause = s.startCause := rfl
@[simp] theorem State.setLine_unique : (s.setLine l f).unique = s.unique := rfl
@[simp] theorem State.setLine_settings : (s.setLine l f).settings = s.settings := rfl
@[simp] theorem State.setLine_loader : (s.setLine l f).loader = s.loader := rfl
@[simp] theorem State.setLine_channels : (s.setLine l f).channels = s.channels := rfl
@[simp] theorem State.setLine_queue : (s.setLine l f).queue = s.queue := rfl
@[simp] theorem State.setLine_tone : (s.setLine l f).tone = s.tone := rfl
@[simp] theorem State.setLine_access : (s.setLine l f).access = s.access := rfl
@[simp] theorem State.setLine_call : (s.setLine l f).call = s.call := rfl
@[simp] theorem State.setLine_listener : (s.setLine l f).listener = s.listener := rfl
@[simp] theorem State.setLine_trouble : (s.setLine l f).trouble = s.trouble := rfl
@[simp] theorem State.setLine_port : (s.setLine l f).port = s.port := rfl
@[simp] theorem State.setLine_choices : (s.setLine l f).choices = s.choices := rfl
@[simp] theorem State.setLine_pending : (s.setLine l f).pending = s.pending := rfl
end

section
variable (s : State) (l : LineNo) (f : Decoder → Decoder)
@[simp] theorem State.setDecoder_now : (s.setDecoder l f).now = s.now := rfl
@[simp] theorem State.setDecoder_supply : (s.setDecoder l f).supply = s.supply := rfl
@[simp] theorem State.setDecoder_pinLow : (s.setDecoder l f).pinLow = s.pinLow := rfl
@[simp] theorem State.setDecoder_phase : (s.setDecoder l f).phase = s.phase := rfl
@[simp] theorem State.setDecoder_startCause : (s.setDecoder l f).startCause = s.startCause := rfl
@[simp] theorem State.setDecoder_unique : (s.setDecoder l f).unique = s.unique := rfl
@[simp] theorem State.setDecoder_settings : (s.setDecoder l f).settings = s.settings := rfl
@[simp] theorem State.setDecoder_loader : (s.setDecoder l f).loader = s.loader := rfl
@[simp] theorem State.setDecoder_channels : (s.setDecoder l f).channels = s.channels := rfl
@[simp] theorem State.setDecoder_queue : (s.setDecoder l f).queue = s.queue := rfl
@[simp] theorem State.setDecoder_lines : (s.setDecoder l f).lines = s.lines := rfl
@[simp] theorem State.setDecoder_tone : (s.setDecoder l f).tone = s.tone := rfl
@[simp] theorem State.setDecoder_access : (s.setDecoder l f).access = s.access := rfl
@[simp] theorem State.setDecoder_call : (s.setDecoder l f).call = s.call := rfl
@[simp] theorem State.setDecoder_trouble : (s.setDecoder l f).trouble = s.trouble := rfl
@[simp] theorem State.setDecoder_port : (s.setDecoder l f).port = s.port := rfl
@[simp] theorem State.setDecoder_choices : (s.setDecoder l f).choices = s.choices := rfl
@[simp] theorem State.setDecoder_pending : (s.setDecoder l f).pending = s.pending := rfl
end

section
variable (s : State) (c : Condition) (f : ConditionRecord → ConditionRecord)
@[simp] theorem State.setCond_now : (s.setCond c f).now = s.now := rfl
@[simp] theorem State.setCond_supply : (s.setCond c f).supply = s.supply := rfl
@[simp] theorem State.setCond_pinLow : (s.setCond c f).pinLow = s.pinLow := rfl
@[simp] theorem State.setCond_phase : (s.setCond c f).phase = s.phase := rfl
@[simp] theorem State.setCond_startCause : (s.setCond c f).startCause = s.startCause := rfl
@[simp] theorem State.setCond_unique : (s.setCond c f).unique = s.unique := rfl
@[simp] theorem State.setCond_settings : (s.setCond c f).settings = s.settings := rfl
@[simp] theorem State.setCond_loader : (s.setCond c f).loader = s.loader := rfl
@[simp] theorem State.setCond_channels : (s.setCond c f).channels = s.channels := rfl
@[simp] theorem State.setCond_queue : (s.setCond c f).queue = s.queue := rfl
@[simp] theorem State.setCond_lines : (s.setCond c f).lines = s.lines := rfl
@[simp] theorem State.setCond_tone : (s.setCond c f).tone = s.tone := rfl
@[simp] theorem State.setCond_access : (s.setCond c f).access = s.access := rfl
@[simp] theorem State.setCond_call : (s.setCond c f).call = s.call := rfl
@[simp] theorem State.setCond_listener : (s.setCond c f).listener = s.listener := rfl
@[simp] theorem State.setCond_port : (s.setCond c f).port = s.port := rfl
@[simp] theorem State.setCond_choices : (s.setCond c f).choices = s.choices := rfl
@[simp] theorem State.setCond_pending : (s.setCond c f).pending = s.pending := rfl
end

section
variable (s : State) (q : Nat) (f : Report → Report)
@[simp] theorem State.setReport_now : (s.setReport q f).now = s.now := rfl
@[simp] theorem State.setReport_supply : (s.setReport q f).supply = s.supply := rfl
@[simp] theorem State.setReport_pinLow : (s.setReport q f).pinLow = s.pinLow := rfl
@[simp] theorem State.setReport_phase : (s.setReport q f).phase = s.phase := rfl
@[simp] theorem State.setReport_startCause : (s.setReport q f).startCause = s.startCause := rfl
@[simp] theorem State.setReport_unique : (s.setReport q f).unique = s.unique := rfl
@[simp] theorem State.setReport_settings : (s.setReport q f).settings = s.settings := rfl
@[simp] theorem State.setReport_loader : (s.setReport q f).loader = s.loader := rfl
@[simp] theorem State.setReport_channels : (s.setReport q f).channels = s.channels := rfl
@[simp] theorem State.setReport_lines : (s.setReport q f).lines = s.lines := rfl
@[simp] theorem State.setReport_tone : (s.setReport q f).tone = s.tone := rfl
@[simp] theorem State.setReport_access : (s.setReport q f).access = s.access := rfl
@[simp] theorem State.setReport_call : (s.setReport q f).call = s.call := rfl
@[simp] theorem State.setReport_listener : (s.setReport q f).listener = s.listener := rfl
@[simp] theorem State.setReport_trouble : (s.setReport q f).trouble = s.trouble := rfl
@[simp] theorem State.setReport_port : (s.setReport q f).port = s.port := rfl
@[simp] theorem State.setReport_choices : (s.setReport q f).choices = s.choices := rfl
@[simp] theorem State.setReport_pending : (s.setReport q f).pending = s.pending := rfl
end

section
variable (s : State) (a : AccessState)
@[simp] theorem State.setAccess_now : (s.setAccess a).now = s.now := rfl
@[simp] theorem State.setAccess_supply : (s.setAccess a).supply = s.supply := rfl
@[simp] theorem State.setAccess_pinLow : (s.setAccess a).pinLow = s.pinLow := rfl
@[simp] theorem State.setAccess_phase : (s.setAccess a).phase = s.phase := rfl
@[simp] theorem State.setAccess_startCause : (s.setAccess a).startCause = s.startCause := rfl
@[simp] theorem State.setAccess_unique : (s.setAccess a).unique = s.unique := rfl
@[simp] theorem State.setAccess_settings : (s.setAccess a).settings = s.settings := rfl
@[simp] theorem State.setAccess_loader : (s.setAccess a).loader = s.loader := rfl
@[simp] theorem State.setAccess_channels : (s.setAccess a).channels = s.channels := rfl
@[simp] theorem State.setAccess_queue : (s.setAccess a).queue = s.queue := rfl
@[simp] theorem State.setAccess_lines : (s.setAccess a).lines = s.lines := rfl
@[simp] theorem State.setAccess_tone : (s.setAccess a).tone = s.tone := rfl
@[simp] theorem State.setAccess_call : (s.setAccess a).call = s.call := rfl
@[simp] theorem State.setAccess_listener : (s.setAccess a).listener = s.listener := rfl
@[simp] theorem State.setAccess_trouble : (s.setAccess a).trouble = s.trouble := rfl
@[simp] theorem State.setAccess_port : (s.setAccess a).port = s.port := rfl
@[simp] theorem State.setAccess_choices : (s.setAccess a).choices = s.choices := rfl
@[simp] theorem State.setAccess_pending : (s.setAccess a).pending = s.pending := rfl
end

section
variable (s : State) (f : Call → Call)
@[simp] theorem State.setCall_now : (s.setCall f).now = s.now := rfl
@[simp] theorem State.setCall_supply : (s.setCall f).supply = s.supply := rfl
@[simp] theorem State.setCall_pinLow : (s.setCall f).pinLow = s.pinLow := rfl
@[simp] theorem State.setCall_phase : (s.setCall f).phase = s.phase := rfl
@[simp] theorem State.setCall_startCause : (s.setCall f).startCause = s.startCause := rfl
@[simp] theorem State.setCall_unique : (s.setCall f).unique = s.unique := rfl
@[simp] theorem State.setCall_settings : (s.setCall f).settings = s.settings := rfl
@[simp] theorem State.setCall_loader : (s.setCall f).loader = s.loader := rfl
@[simp] theorem State.setCall_channels : (s.setCall f).channels = s.channels := rfl
@[simp] theorem State.setCall_queue : (s.setCall f).queue = s.queue := rfl
@[simp] theorem State.setCall_lines : (s.setCall f).lines = s.lines := rfl
@[simp] theorem State.setCall_tone : (s.setCall f).tone = s.tone := rfl
@[simp] theorem State.setCall_access : (s.setCall f).access = s.access := rfl
@[simp] theorem State.setCall_listener : (s.setCall f).listener = s.listener := rfl
@[simp] theorem State.setCall_trouble : (s.setCall f).trouble = s.trouble := rfl
@[simp] theorem State.setCall_port : (s.setCall f).port = s.port := rfl
@[simp] theorem State.setCall_choices : (s.setCall f).choices = s.choices := rfl
@[simp] theorem State.setCall_pending : (s.setCall f).pending = s.pending := rfl
end

section
variable (s : State) (f : List HeardEntry → List HeardEntry)
@[simp] theorem State.setHeard_now : (s.setHeard f).now = s.now := rfl
@[simp] theorem State.setHeard_supply : (s.setHeard f).supply = s.supply := rfl
@[simp] theorem State.setHeard_pinLow : (s.setHeard f).pinLow = s.pinLow := rfl
@[simp] theorem State.setHeard_phase : (s.setHeard f).phase = s.phase := rfl
@[simp] theorem State.setHeard_startCause : (s.setHeard f).startCause = s.startCause := rfl
@[simp] theorem State.setHeard_unique : (s.setHeard f).unique = s.unique := rfl
@[simp] theorem State.setHeard_settings : (s.setHeard f).settings = s.settings := rfl
@[simp] theorem State.setHeard_loader : (s.setHeard f).loader = s.loader := rfl
@[simp] theorem State.setHeard_channels : (s.setHeard f).channels = s.channels := rfl
@[simp] theorem State.setHeard_queue : (s.setHeard f).queue = s.queue := rfl
@[simp] theorem State.setHeard_lines : (s.setHeard f).lines = s.lines := rfl
@[simp] theorem State.setHeard_tone : (s.setHeard f).tone = s.tone := rfl
@[simp] theorem State.setHeard_access : (s.setHeard f).access = s.access := rfl
@[simp] theorem State.setHeard_call : (s.setHeard f).call = s.call := rfl
@[simp] theorem State.setHeard_trouble : (s.setHeard f).trouble = s.trouble := rfl
@[simp] theorem State.setHeard_port : (s.setHeard f).port = s.port := rfl
@[simp] theorem State.setHeard_choices : (s.setHeard f).choices = s.choices := rfl
@[simp] theorem State.setHeard_pending : (s.setHeard f).pending = s.pending := rfl
end

section
variable (s : State) (f : Port → Port)
@[simp] theorem State.setPort_now : (s.setPort f).now = s.now := rfl
@[simp] theorem State.setPort_supply : (s.setPort f).supply = s.supply := rfl
@[simp] theorem State.setPort_pinLow : (s.setPort f).pinLow = s.pinLow := rfl
@[simp] theorem State.setPort_phase : (s.setPort f).phase = s.phase := rfl
@[simp] theorem State.setPort_startCause : (s.setPort f).startCause = s.startCause := rfl
@[simp] theorem State.setPort_unique : (s.setPort f).unique = s.unique := rfl
@[simp] theorem State.setPort_settings : (s.setPort f).settings = s.settings := rfl
@[simp] theorem State.setPort_loader : (s.setPort f).loader = s.loader := rfl
@[simp] theorem State.setPort_channels : (s.setPort f).channels = s.channels := rfl
@[simp] theorem State.setPort_queue : (s.setPort f).queue = s.queue := rfl
@[simp] theorem State.setPort_lines : (s.setPort f).lines = s.lines := rfl
@[simp] theorem State.setPort_tone : (s.setPort f).tone = s.tone := rfl
@[simp] theorem State.setPort_access : (s.setPort f).access = s.access := rfl
@[simp] theorem State.setPort_call : (s.setPort f).call = s.call := rfl
@[simp] theorem State.setPort_listener : (s.setPort f).listener = s.listener := rfl
@[simp] theorem State.setPort_trouble : (s.setPort f).trouble = s.trouble := rfl
@[simp] theorem State.setPort_choices : (s.setPort f).choices = s.choices := rfl
@[simp] theorem State.setPort_pending : (s.setPort f).pending = s.pending := rfl
end

section
variable (s : State)

@[simp] theorem State.setAccess_state (a : AccessState) : (s.setAccess a).access.state = a := rfl
@[simp] theorem State.setAccess_cursor (a : AccessState) : (s.setAccess a).access.cursor = s.access.cursor := rfl
@[simp] theorem State.setCall_call (f : Call → Call) : (s.setCall f).call = f s.call := rfl
@[simp] theorem State.setPort_port (f : Port → Port) : (s.setPort f).port = f s.port := rfl
@[simp] theorem State.setHeard_heard (f : List HeardEntry → List HeardEntry) :
    (s.setHeard f).listener.heard = f s.listener.heard := rfl
@[simp] theorem State.setReport_reports (q : Nat) (f : Report → Report) :
    (s.setReport q f).queue.reports = s.queue.reports.map fun r => if r.seq = q then f r else r := rfl
@[simp] theorem State.setReport_head (q : Nat) (f : Report → Report) : (s.setReport q f).queue.head = s.queue.head := rfl
@[simp] theorem State.setReport_counter (q : Nat) (f : Report → Report) :
    (s.setReport q f).queue.counter = s.queue.counter := rfl
@[simp] theorem State.setReport_history (q : Nat) (f : Report → Report) :
    (s.setReport q f).queue.history = s.queue.history := rfl
@[simp] theorem State.setReport_overflow (q : Nat) (f : Report → Report) :
    (s.setReport q f).queue.overflow = s.queue.overflow := rfl
@[simp] theorem State.setReport_overflowMark (q : Nat) (f : Report → Report) :
    (s.setReport q f).queue.overflowMark = s.queue.overflowMark := rfl
@[simp] theorem State.setDecoder_heard (l : LineNo) (f : Decoder → Decoder) :
    (s.setDecoder l f).listener.heard = s.listener.heard := rfl
@[simp] theorem State.setDecoder_clashEnd (l : LineNo) (f : Decoder → Decoder) :
    (s.setDecoder l f).listener.clashEnd = s.listener.clashEnd := rfl
@[simp] theorem State.setDecoder_ackCount (l : LineNo) (f : Decoder → Decoder) :
    (s.setDecoder l f).listener.ackCount = s.listener.ackCount := rfl
@[simp] theorem State.setHeard_decoders (f : List HeardEntry → List HeardEntry) :
    (s.setHeard f).listener.decoders = s.listener.decoders := rfl
@[simp] theorem State.setHeard_clashEnd (f : List HeardEntry → List HeardEntry) :
    (s.setHeard f).listener.clashEnd = s.listener.clashEnd := rfl
@[simp] theorem State.setHeard_ackCount (f : List HeardEntry → List HeardEntry) :
    (s.setHeard f).listener.ackCount = s.listener.ackCount := rfl
@[simp] theorem State.setCond_testExpiry (c : Condition) (f : ConditionRecord → ConditionRecord) :
    (s.setCond c f).trouble.testExpiry = s.trouble.testExpiry := rfl
@[simp] theorem State.setCond_missedTests (c : Condition) (f : ConditionRecord → ConditionRecord) :
    (s.setCond c f).trouble.missedTests = s.trouble.missedTests := rfl
@[simp] theorem State.setCond_refusals (c : Condition) (f : ConditionRecord → ConditionRecord) :
    (s.setCond c f).trouble.refusals = s.trouble.refusals := rfl

end

/-! ### Reading a record just written -/

section
variable (s : State)

@[simp] theorem State.chan_setChan (c : ChannelNo) (f : Channel → Channel) : (s.setChan c f).chan c = f (s.chan c) := by
  simp [State.setChan, State.chan]

theorem State.chan_setChan_ne (c d : ChannelNo) (f : Channel → Channel) (h : d ≠ c) :
    (s.setChan c f).chan d = s.chan d := by
  have : c.val ≠ d.val := fun e => h (Fin.ext e.symm)
  simp [State.setChan, State.chan, Vector.getElem_set_ne, this]

@[simp] theorem State.line_setLine (l : LineNo) (f : Line → Line) : (s.setLine l f).line l = f (s.line l) := by
  simp [State.setLine, State.line]

theorem State.line_setLine_ne (l m : LineNo) (f : Line → Line) (h : m ≠ l) :
    (s.setLine l f).line m = s.line m := by
  have : l.val ≠ m.val := fun e => h (Fin.ext e.symm)
  simp [State.setLine, State.line, Vector.getElem_set_ne, this]

@[simp] theorem State.decoder_setDecoder (l : LineNo) (f : Decoder → Decoder) :
    (s.setDecoder l f).decoder l = f (s.decoder l) := by
  simp [State.setDecoder, State.decoder]

theorem State.decoder_setDecoder_ne (l m : LineNo) (f : Decoder → Decoder) (h : m ≠ l) :
    (s.setDecoder l f).decoder m = s.decoder m := by
  have : l.val ≠ m.val := fun e => h (Fin.ext e.symm)
  simp [State.setDecoder, State.decoder, Vector.getElem_set_ne, this]

@[simp] theorem State.cond_setCond (c : Condition) (f : ConditionRecord → ConditionRecord) :
    (s.setCond c f).cond c = f (s.cond c) := by
  simp [State.setCond, State.cond]

/-- The places of two conditions in the list differ. -/
theorem Condition.index_inj (c d : Condition) (h : c.index = d.index) : c = d := by
  cases c <;> cases d <;> simp [Condition.index, Fin.ext_iff] at h ⊢ <;> omega

theorem State.cond_setCond_ne (c d : Condition) (f : ConditionRecord → ConditionRecord) (h : d ≠ c) :
    (s.setCond c f).cond d = s.cond d := by
  have : c.index.val ≠ d.index.val := fun e => h (Condition.index_inj _ _ (Fin.ext e.symm))
  simp [State.setCond, State.cond, Vector.getElem_set_ne, this]

end

/-! ### What is read of untouched fields -/

section
variable (s : State)

@[simp] theorem State.line_setChan (c : ChannelNo) (f : Channel → Channel) (m : LineNo) : (s.setChan c f).line m = s.line m := rfl
@[simp] theorem State.decoder_setChan (c : ChannelNo) (f : Channel → Channel) (m : LineNo) : (s.setChan c f).decoder m = s.decoder m := rfl
@[simp] theorem State.cond_setChan (c : ChannelNo) (f : Channel → Channel) (d : Condition) : (s.setChan c f).cond d = s.cond d := rfl
@[simp] theorem State.report_setChan (c : ChannelNo) (f : Channel → Channel) (p : Nat) : (s.setChan c f).report p = s.report p := rfl
@[simp] theorem State.running_setChan (c : ChannelNo) (f : Channel → Channel) : (s.setChan c f).running = s.running := rfl
@[simp] theorem State.clock_setChan (c : ChannelNo) (f : Channel → Channel) : (s.setChan c f).clock = s.clock := rfl
@[simp] theorem State.chanSettings_setChan (c : ChannelNo) (f : Channel → Channel) (d : ChannelNo) : (s.setChan c f).chanSettings d = s.chanSettings d := rfl
@[simp] theorem State.chan_setLine (l : LineNo) (f : Line → Line) (d : ChannelNo) : (s.setLine l f).chan d = s.chan d := rfl
@[simp] theorem State.decoder_setLine (l : LineNo) (f : Line → Line) (m : LineNo) : (s.setLine l f).decoder m = s.decoder m := rfl
@[simp] theorem State.cond_setLine (l : LineNo) (f : Line → Line) (d : Condition) : (s.setLine l f).cond d = s.cond d := rfl
@[simp] theorem State.report_setLine (l : LineNo) (f : Line → Line) (p : Nat) : (s.setLine l f).report p = s.report p := rfl
@[simp] theorem State.running_setLine (l : LineNo) (f : Line → Line) : (s.setLine l f).running = s.running := rfl
@[simp] theorem State.clock_setLine (l : LineNo) (f : Line → Line) : (s.setLine l f).clock = s.clock := rfl
@[simp] theorem State.chanSettings_setLine (l : LineNo) (f : Line → Line) (d : ChannelNo) : (s.setLine l f).chanSettings d = s.chanSettings d := rfl
@[simp] theorem State.chan_setDecoder (l : LineNo) (f : Decoder → Decoder) (d : ChannelNo) : (s.setDecoder l f).chan d = s.chan d := rfl
@[simp] theorem State.line_setDecoder (l : LineNo) (f : Decoder → Decoder) (m : LineNo) : (s.setDecoder l f).line m = s.line m := rfl
@[simp] theorem State.cond_setDecoder (l : LineNo) (f : Decoder → Decoder) (d : Condition) : (s.setDecoder l f).cond d = s.cond d := rfl
@[simp] theorem State.report_setDecoder (l : LineNo) (f : Decoder → Decoder) (p : Nat) : (s.setDecoder l f).report p = s.report p := rfl
@[simp] theorem State.running_setDecoder (l : LineNo) (f : Decoder → Decoder) : (s.setDecoder l f).running = s.running := rfl
@[simp] theorem State.clock_setDecoder (l : LineNo) (f : Decoder → Decoder) : (s.setDecoder l f).clock = s.clock := rfl
@[simp] theorem State.chanSettings_setDecoder (l : LineNo) (f : Decoder → Decoder) (d : ChannelNo) : (s.setDecoder l f).chanSettings d = s.chanSettings d := rfl
@[simp] theorem State.chan_setCond (c : Condition) (f : ConditionRecord → ConditionRecord) (d : ChannelNo) : (s.setCond c f).chan d = s.chan d := rfl
@[simp] theorem State.line_setCond (c : Condition) (f : ConditionRecord → ConditionRecord) (m : LineNo) : (s.setCond c f).line m = s.line m := rfl
@[simp] theorem State.decoder_setCond (c : Condition) (f : ConditionRecord → ConditionRecord) (m : LineNo) : (s.setCond c f).decoder m = s.decoder m := rfl
@[simp] theorem State.report_setCond (c : Condition) (f : ConditionRecord → ConditionRecord) (p : Nat) : (s.setCond c f).report p = s.report p := rfl
@[simp] theorem State.running_setCond (c : Condition) (f : ConditionRecord → ConditionRecord) : (s.setCond c f).running = s.running := rfl
@[simp] theorem State.clock_setCond (c : Condition) (f : ConditionRecord → ConditionRecord) : (s.setCond c f).clock = s.clock := rfl
@[simp] theorem State.chanSettings_setCond (c : Condition) (f : ConditionRecord → ConditionRecord) (d : ChannelNo) : (s.setCond c f).chanSettings d = s.chanSettings d := rfl
@[simp] theorem State.chan_setReport (q : Nat) (f : Report → Report) (d : ChannelNo) : (s.setReport q f).chan d = s.chan d := rfl
@[simp] theorem State.line_setReport (q : Nat) (f : Report → Report) (m : LineNo) : (s.setReport q f).line m = s.line m := rfl
@[simp] theorem State.decoder_setReport (q : Nat) (f : Report → Report) (m : LineNo) : (s.setReport q f).decoder m = s.decoder m := rfl
@[simp] theorem State.cond_setReport (q : Nat) (f : Report → Report) (d : Condition) : (s.setReport q f).cond d = s.cond d := rfl
@[simp] theorem State.running_setReport (q : Nat) (f : Report → Report) : (s.setReport q f).running = s.running := rfl
@[simp] theorem State.clock_setReport (q : Nat) (f : Report → Report) : (s.setReport q f).clock = s.clock := rfl
@[simp] theorem State.chanSettings_setReport (q : Nat) (f : Report → Report) (d : ChannelNo) : (s.setReport q f).chanSettings d = s.chanSettings d := rfl
@[simp] theorem State.chan_setAccess (a : AccessState) (d : ChannelNo) : (s.setAccess a).chan d = s.chan d := rfl
@[simp] theorem State.line_setAccess (a : AccessState) (m : LineNo) : (s.setAccess a).line m = s.line m := rfl
@[simp] theorem State.decoder_setAccess (a : AccessState) (m : LineNo) : (s.setAccess a).decoder m = s.decoder m := rfl
@[simp] theorem State.cond_setAccess (a : AccessState) (d : Condition) : (s.setAccess a).cond d = s.cond d := rfl
@[simp] theorem State.report_setAccess (a : AccessState) (p : Nat) : (s.setAccess a).report p = s.report p := rfl
@[simp] theorem State.running_setAccess (a : AccessState) : (s.setAccess a).running = s.running := rfl
@[simp] theorem State.clock_setAccess (a : AccessState) : (s.setAccess a).clock = s.clock := rfl
@[simp] theorem State.chanSettings_setAccess (a : AccessState) (d : ChannelNo) : (s.setAccess a).chanSettings d = s.chanSettings d := rfl
@[simp] theorem State.chan_setCall (f : Call → Call) (d : ChannelNo) : (s.setCall f).chan d = s.chan d := rfl
@[simp] theorem State.line_setCall (f : Call → Call) (m : LineNo) : (s.setCall f).line m = s.line m := rfl
@[simp] theorem State.decoder_setCall (f : Call → Call) (m : LineNo) : (s.setCall f).decoder m = s.decoder m := rfl
@[simp] theorem State.cond_setCall (f : Call → Call) (d : Condition) : (s.setCall f).cond d = s.cond d := rfl
@[simp] theorem State.report_setCall (f : Call → Call) (p : Nat) : (s.setCall f).report p = s.report p := rfl
@[simp] theorem State.running_setCall (f : Call → Call) : (s.setCall f).running = s.running := rfl
@[simp] theorem State.clock_setCall (f : Call → Call) : (s.setCall f).clock = s.clock := rfl
@[simp] theorem State.chanSettings_setCall (f : Call → Call) (d : ChannelNo) : (s.setCall f).chanSettings d = s.chanSettings d := rfl
@[simp] theorem State.chan_setHeard (f : List HeardEntry → List HeardEntry) (d : ChannelNo) : (s.setHeard f).chan d = s.chan d := rfl
@[simp] theorem State.line_setHeard (f : List HeardEntry → List HeardEntry) (m : LineNo) : (s.setHeard f).line m = s.line m := rfl
@[simp] theorem State.cond_setHeard (f : List HeardEntry → List HeardEntry) (d : Condition) : (s.setHeard f).cond d = s.cond d := rfl
@[simp] theorem State.report_setHeard (f : List HeardEntry → List HeardEntry) (p : Nat) : (s.setHeard f).report p = s.report p := rfl
@[simp] theorem State.running_setHeard (f : List HeardEntry → List HeardEntry) : (s.setHeard f).running = s.running := rfl
@[simp] theorem State.clock_setHeard (f : List HeardEntry → List HeardEntry) : (s.setHeard f).clock = s.clock := rfl
@[simp] theorem State.chanSettings_setHeard (f : List HeardEntry → List HeardEntry) (d : ChannelNo) : (s.setHeard f).chanSettings d = s.chanSettings d := rfl
@[simp] theorem State.chan_setPort (f : Port → Port) (d : ChannelNo) : (s.setPort f).chan d = s.chan d := rfl
@[simp] theorem State.line_setPort (f : Port → Port) (m : LineNo) : (s.setPort f).line m = s.line m := rfl
@[simp] theorem State.decoder_setPort (f : Port → Port) (m : LineNo) : (s.setPort f).decoder m = s.decoder m := rfl
@[simp] theorem State.cond_setPort (f : Port → Port) (d : Condition) : (s.setPort f).cond d = s.cond d := rfl
@[simp] theorem State.report_setPort (f : Port → Port) (p : Nat) : (s.setPort f).report p = s.report p := rfl
@[simp] theorem State.running_setPort (f : Port → Port) : (s.setPort f).running = s.running := rfl
@[simp] theorem State.clock_setPort (f : Port → Port) : (s.setPort f).clock = s.clock := rfl
@[simp] theorem State.chanSettings_setPort (f : Port → Port) (d : ChannelNo) : (s.setPort f).chanSettings d = s.chanSettings d := rfl

@[simp] theorem State.decoder_setHeard (f : List HeardEntry → List HeardEntry) (m : LineNo) :
    (s.setHeard f).decoder m = s.decoder m := rfl

end

/-! ### Two updates of one record, and equal updates -/

section
variable (s : State)

@[simp] theorem State.setChan_setChan (c : ChannelNo) (f g : Channel → Channel) :
    (s.setChan c f).setChan c g = s.setChan c fun x => g (f x) := by
  simp [State.setChan, State.chan]

@[simp] theorem State.setLine_setLine (l : LineNo) (f g : Line → Line) :
    (s.setLine l f).setLine l g = s.setLine l fun x => g (f x) := by
  simp [State.setLine, State.line]

@[simp] theorem State.setDecoder_setDecoder (l : LineNo) (f g : Decoder → Decoder) :
    (s.setDecoder l f).setDecoder l g = s.setDecoder l fun x => g (f x) := by
  simp [State.setDecoder, State.decoder]

@[simp] theorem State.setCond_setCond (c : Condition) (f g : ConditionRecord → ConditionRecord) :
    (s.setCond c f).setCond c g = s.setCond c fun x => g (f x) := by
  simp [State.setCond, State.cond]

@[simp] theorem State.setCall_setCall (f g : Call → Call) : (s.setCall f).setCall g = s.setCall fun x => g (f x) := rfl

@[simp] theorem State.setAccess_setAccess (a b : AccessState) : (s.setAccess a).setAccess b = s.setAccess b := rfl

@[simp] theorem State.setPort_setPort (f g : Port → Port) : (s.setPort f).setPort g = s.setPort fun x => g (f x) := rfl

/-- Two updates of a channel that agree on its record agree. -/
theorem State.setChan_congr (c : ChannelNo) (f g : Channel → Channel) (h : f (s.chan c) = g (s.chan c)) :
    s.setChan c f = s.setChan c g := by
  simp [State.setChan, h]

/-- Two updates of a line that agree on its record agree. -/
theorem State.setLine_congr (l : LineNo) (f g : Line → Line) (h : f (s.line l) = g (s.line l)) :
    s.setLine l f = s.setLine l g := by
  simp [State.setLine, h]

/-- Two updates of a decoder that agree on its record agree. -/
theorem State.setDecoder_congr (l : LineNo) (f g : Decoder → Decoder) (h : f (s.decoder l) = g (s.decoder l)) :
    s.setDecoder l f = s.setDecoder l g := by
  simp [State.setDecoder, h]

/-- Two updates of a condition that agree on its record agree. -/
theorem State.setCond_congr (c : Condition) (f g : ConditionRecord → ConditionRecord) (h : f (s.cond c) = g (s.cond c)) :
    s.setCond c f = s.setCond c g := by
  simp [State.setCond, h]

/-- Two updates of the call that agree on its context agree. -/
theorem State.setCall_congr (f g : Call → Call) (h : f s.call = g s.call) : s.setCall f = s.setCall g := by
  simp [State.setCall, h]

/-- An update that leaves the channel's record as it is changes nothing. -/
theorem State.setChan_same (c : ChannelNo) (f : Channel → Channel) (h : f (s.chan c) = s.chan c) : s.setChan c f = s := by
  unfold State.setChan; rw [h]; simp [State.chan]

/-- An update that leaves the line's record as it is changes nothing. -/
theorem State.setLine_same (l : LineNo) (f : Line → Line) (h : f (s.line l) = s.line l) : s.setLine l f = s := by
  unfold State.setLine; rw [h]; simp [State.line]

end

end Sys2Proof.Machine
end

