-- ==== Sys2Proof/Laws/Kept.lean ====
section
/-! SUPPORT. What the queue, the access controller, the call engine, the line units and the trouble unit leave alone when one acts on
another: the clock, the start, the settings, the channels, the heard table, the port and the waiting commands. -/

namespace Sys2Proof.Machine

/-- Two states that differ only in the queue, lines, tone, access, call, decoders and trouble list. -/
structure Kept (s t : State) : Prop where
  now : t.now = s.now
  supply : t.supply = s.supply
  pinLow : t.pinLow = s.pinLow
  phase : t.phase = s.phase
  startCause : t.startCause = s.startCause
  unique : t.unique = s.unique
  settings : t.settings = s.settings
  loader : t.loader = s.loader
  channels : t.channels = s.channels
  heard : t.listener.heard = s.listener.heard
  clashEnd : t.listener.clashEnd = s.listener.clashEnd
  ackCount : t.listener.ackCount = s.listener.ackCount
  port : t.port = s.port
  choices : t.choices = s.choices
  pending : t.pending = s.pending

section
variable {s t u : State}

theorem Kept.refl (s : State) : Kept s s := ⟨rfl, rfl, rfl, rfl, rfl, rfl, rfl, rfl, rfl, rfl, rfl, rfl, rfl, rfl, rfl⟩

theorem Kept.trans (h : Kept s t) (k : Kept t u) : Kept s u :=
  ⟨k.now.trans h.now, k.supply.trans h.supply, k.pinLow.trans h.pinLow, k.phase.trans h.phase,
    k.startCause.trans h.startCause, k.unique.trans h.unique, k.settings.trans h.settings, k.loader.trans h.loader,
    k.channels.trans h.channels, k.heard.trans h.heard, k.clashEnd.trans h.clashEnd, k.ackCount.trans h.ackCount,
    k.port.trans h.port, k.choices.trans h.choices, k.pending.trans h.pending⟩

theorem Kept.running (h : Kept s t) : t.running = s.running := by simp [State.running, h.phase]
theorem Kept.clock (h : Kept s t) : t.clock = s.clock := by simp [State.clock, h.running, h.now]
theorem Kept.chan (h : Kept s t) (c : ChannelNo) : t.chan c = s.chan c := by simp [State.chan, h.channels]
theorem Kept.chanSettings (h : Kept s t) (c : ChannelNo) : t.chanSettings c = s.chanSettings c := by
  simp [State.chanSettings, h.settings]

end

/-- Folding an operation that keeps, over a list. -/
theorem Kept.foldl {α : Type} (f : State → α → State) (h : ∀ s a, Kept s (f s a)) :
    ∀ (l : List α) (s : State), Kept s (l.foldl f s)
  | [], s => .refl s
  | a :: l, s => (h s a).trans (Kept.foldl f h l (f s a))

section
variable (s : State)

/-! ### The plain updates -/

theorem kept_setLine (l : LineNo) (f : Line → Line) : Kept s (s.setLine l f) := ⟨rfl, rfl, rfl, rfl, rfl, rfl, rfl, rfl, rfl, rfl, rfl, rfl, rfl, rfl, rfl⟩
theorem kept_setDecoder (l : LineNo) (f : Decoder → Decoder) : Kept s (s.setDecoder l f) := ⟨rfl, rfl, rfl, rfl, rfl, rfl, rfl, rfl, rfl, rfl, rfl, rfl, rfl, rfl, rfl⟩
theorem kept_setCond (c : Condition) (f : ConditionRecord → ConditionRecord) : Kept s (s.setCond c f) := ⟨rfl, rfl, rfl, rfl, rfl, rfl, rfl, rfl, rfl, rfl, rfl, rfl, rfl, rfl, rfl⟩
theorem kept_setReport (q : Nat) (f : Report → Report) : Kept s (s.setReport q f) := ⟨rfl, rfl, rfl, rfl, rfl, rfl, rfl, rfl, rfl, rfl, rfl, rfl, rfl, rfl, rfl⟩
theorem kept_setAccess (a : AccessState) : Kept s (s.setAccess a) := ⟨rfl, rfl, rfl, rfl, rfl, rfl, rfl, rfl, rfl, rfl, rfl, rfl, rfl, rfl, rfl⟩
theorem kept_setCall (f : Call → Call) : Kept s (s.setCall f) := ⟨rfl, rfl, rfl, rfl, rfl, rfl, rfl, rfl, rfl, rfl, rfl, rfl, rfl, rfl, rfl⟩
theorem kept_tone (t : ToneOutput) : Kept s { s with tone := t } := ⟨rfl, rfl, rfl, rfl, rfl, rfl, rfl, rfl, rfl, rfl, rfl, rfl, rfl, rfl, rfl⟩
theorem kept_queue (q : Queue) : Kept s { s with queue := q } := ⟨rfl, rfl, rfl, rfl, rfl, rfl, rfl, rfl, rfl, rfl, rfl, rfl, rfl, rfl, rfl⟩
theorem kept_trouble (q : TroubleUnit) : Kept s { s with trouble := q } := ⟨rfl, rfl, rfl, rfl, rfl, rfl, rfl, rfl, rfl, rfl, rfl, rfl, rfl, rfl, rfl⟩
theorem kept_moveCursor (l : LineNo) : Kept s (moveCursor l s) := ⟨rfl, rfl, rfl, rfl, rfl, rfl, rfl, rfl, rfl, rfl, rfl, rfl, rfl, rfl, rfl⟩

/-! ### Line units and the tone output -/

theorem kept_startTone (r : ToneRequest) : Kept s (startTone r s) := (kept_setLine s _ _).trans (kept_tone _ _)

theorem kept_requestTone (l : LineNo) (y : Sym) (d : Nat) : Kept s (requestTone l y d s) := by
  unfold requestTone
  split
  · split
    · exact kept_startTone _ _
    · exact kept_tone _ _
  · exact .refl s

theorem kept_silenceLine (l : LineNo) : Kept s (silenceLine l s) := (kept_setLine s _ _).trans (kept_tone _ _)

theorem kept_raiseGarbled (l : LineNo) : Kept s (raiseGarbled l s) := by
  unfold raiseGarbled; split <;> first | exact .refl s | exact kept_setLine _ _ _

theorem kept_discardStream (l : LineNo) : Kept s (discardStream l s) := by
  unfold discardStream; split
  · exact .refl s
  · exact (kept_setDecoder s _ _).trans (kept_raiseGarbled _ _)

theorem kept_seizeLine (check : Bool) (l : LineNo) : Kept s (seizeLine check l s) :=
  (kept_discardStream s l).trans (kept_setLine _ _ _)

theorem kept_reseizeLine (l : LineNo) : Kept s (reseizeLine l s) := kept_setLine _ _ _

theorem kept_dropToGuard (n : Bool) (l : LineNo) : Kept s (dropToGuard n l s) :=
  (kept_setLine s _ _).trans (kept_silenceLine _ _)

theorem kept_releaseLine (b : Holder) (k : ReleaseKind) (l : LineNo) : Kept s (releaseLine b k l s) := by
  unfold releaseLine
  split
  · split
    · cases k
      · exact kept_dropToGuard _ _ _
      · exact kept_dropToGuard _ _ _
      · exact (kept_setLine s _ _).trans (kept_silenceLine _ _)
    · cases k
      · exact kept_setLine _ _ _
      · exact kept_setLine _ _ _
      · exact .refl s
    · exact .refl s
  · exact .refl s

/-! ### The access controller -/

theorem kept_raiseContention (q : Nat) : Kept s (raiseContention q s) := kept_setReport _ _ _

theorem kept_raiseHeadContention : Kept s (raiseHeadContention s) := by
  unfold raiseHeadContention; split
  · exact kept_raiseContention _ _
  · exact .refl s

theorem kept_awaitLine (t0 : Nat) : Kept s (awaitLine t0 s) := by
  unfold awaitLine; split
  · exact kept_setAccess _ _
  · split <;> exact kept_setAccess _ _

theorem kept_takeIdle (t0 : Nat) (l : LineNo) : Kept s (takeIdle t0 l s) :=
  ((kept_seizeLine s _ _).trans (kept_moveCursor _ _)).trans (kept_setAccess _ _)

theorem kept_chooseLine (t0 : Nat) : Kept s (chooseLine t0 s) := by
  unfold chooseLine; dsimp only; split
  · split
    · exact (kept_awaitLine s _).trans (kept_takeIdle _ _ _)
    · exact kept_awaitLine s _
  · exact kept_awaitLine s _

theorem kept_seizeChosen : Kept s (seizeChosen s) := by
  unfold seizeChosen; split
  · split
    · exact kept_takeIdle _ _ _
    · exact kept_chooseLine _ _
  · exact .refl s

theorem kept_seizeIfDue : Kept s (seizeIfDue s) := by
  unfold seizeIfDue; split
  · split
    · exact kept_seizeChosen s
    · exact .refl s
  · exact .refl s

theorem kept_startAcquisition : Kept s (startAcquisition s) := by
  unfold startAcquisition; split
  · exact kept_chooseLine _ _
  · exact .refl s

theorem kept_releaseAndChoose (t0 : Nat) (l : LineNo) : Kept s (releaseAndChoose t0 l s) :=
  (kept_releaseLine s _ _ _).trans (kept_chooseLine _ _)

theorem kept_releaseAndIdle (l : LineNo) : Kept s (releaseAndIdle l s) :=
  (kept_releaseLine s _ _ _).trans (kept_setAccess _ _)

theorem kept_beginDemand (t0 : Nat) (l : LineNo) (rec : PreemptRecord) (c : ReportClass) :
    Kept s (beginDemand t0 l rec c s) := (kept_requestTone s _ _ _).trans (kept_setAccess _ _)

theorem kept_preemptSeize (t0 : Nat) (l : LineNo) (c : ReportClass) : Kept s (preemptSeize t0 l c s) := by
  unfold preemptSeize; split
  · exact ((kept_seizeLine s _ _).trans (kept_moveCursor _ _)).trans (kept_beginDemand _ _ _ _ _)
  · exact kept_chooseLine _ _

theorem kept_preemptionTest : Kept s (preemptionTest s) := by
  unfold preemptionTest; split
  · split
    · split
      · exact kept_preemptSeize _ _ _ _
      · exact .refl s
    · exact .refl s
  · exact .refl s

theorem kept_laterPreemptionTest : Kept s (laterPreemptionTest s) := by
  unfold laterPreemptionTest; split
  · exact kept_preemptionTest s
  · exact .refl s

theorem kept_headLost : Kept s (headLost s) := by
  unfold headLost; split
  · exact .refl s
  all_goals first | exact kept_setAccess _ _ | exact kept_releaseAndIdle _ _

theorem kept_headReplaced (r : Report) : Kept s (headReplaced r s) := by
  unfold headReplaced; split
  · exact kept_startAcquisition s
  · split
    · exact kept_chooseLine _ _
    · exact kept_laterPreemptionTest s
  · split
    · exact (kept_setAccess s _).trans (kept_seizeIfDue _)
    · exact kept_chooseLine _ _
  · exact .refl s
  · split
    · split
      · exact .refl s
      · exact kept_releaseAndChoose _ _ _
    · exact .refl s
  · split
    · exact kept_setAccess _ _
    · exact kept_releaseAndChoose _ _ _

theorem kept_accessHeadChange : Kept s (accessHeadChange s) := by
  unfold accessHeadChange; split
  · exact kept_headLost s
  · exact kept_headReplaced s _

theorem kept_accessLineNotice (l : LineNo) : Kept s (accessLineNotice l s) := by
  unfold accessLineNotice; split
  · split
    · split
      · exact kept_chooseLine _ _
      · exact kept_laterPreemptionTest s
    · exact .refl s
  · split
    · exact kept_chooseLine _ _
    · exact .refl s
  · split
    · exact kept_releaseAndChoose _ _ _
    · exact .refl s
  all_goals exact .refl s

theorem kept_accessOccupantNotice (l : LineNo) : Kept s (accessOccupantNotice l s) := by
  unfold accessOccupantNotice; split
  · exact kept_laterPreemptionTest s
  · exact .refl s

theorem kept_setOccupant (l : LineNo) (c : ReportClass) : Kept s (setOccupant l c s) := by
  unfold setOccupant; split
  · split
    · exact .refl s
    · exact (kept_setLine s _ _).trans (kept_accessOccupantNotice _ _)
  · exact .refl s

theorem kept_checkClear (t0 : Nat) (l : LineNo) : Kept s (checkClear t0 l s) := by
  unfold checkClear; split
  · exact kept_releaseAndIdle _ _
  · split
    · exact kept_setAccess _ _
    · exact kept_releaseAndChoose _ _ _

theorem kept_accessCheckResult (res : CheckResult) : Kept s (accessCheckResult res s) := by
  unfold accessCheckResult; split
  · split
    · exact (kept_raiseHeadContention s).trans (kept_chooseLine _ _)
    · exact (kept_raiseHeadContention s).trans (kept_chooseLine _ _)
    · exact kept_chooseLine _ _
    · exact kept_checkClear _ _ _
  · exact .refl s

/-! ### The call engine and the report queue -/

theorem kept_decideHead : Kept s (decideHead s) := by
  unfold decideHead; split
  · exact .refl s
  · dsimp only
    split
    · exact (kept_queue s _).trans (kept_accessHeadChange _)
    · exact kept_queue s _

theorem kept_returnUncharged (d c : Bool) (q : Nat) : Kept s (returnUncharged d c q s) :=
  (kept_setReport s _ _).trans (kept_decideHead _)

theorem kept_beginClosing : Kept s (beginClosing s) := by
  unfold beginClosing; dsimp only; split
  · exact (kept_setCall s _).trans (kept_releaseLine _ _ _ _)
  · exact kept_setCall s _

theorem kept_leaveCall : Kept s (leaveCall s) := (kept_setCall s _).trans (kept_startAcquisition _)

/-- Returning several reports of the batch without charge. -/
theorem kept_returnsUncharged (d c : Bool) (l : List BatchEntry) :
    Kept s (l.foldl (fun t e => returnUncharged d c e.seq t) s) :=
  Kept.foldl (fun (t : State) (e : BatchEntry) => returnUncharged d c e.seq t)
    (fun t e => kept_returnUncharged t d c e.seq) l s

theorem kept_endUncharged (d c : Bool) : Kept s (endUncharged d c s) := by
  unfold endUncharged
  exact ((kept_beginClosing s).trans (kept_returnsUncharged _ d c _)).trans (kept_leaveCall _)

theorem kept_takeIntoCall (q : Nat) : Kept s (takeIntoCall q s) := kept_setReport _ _ _

theorem kept_insertReport (q : Nat) : Kept s (insertReport q s) := by
  unfold insertReport
  exact (((kept_setCall s _).trans (kept_takeIntoCall _ _)).trans (kept_returnsUncharged _ _ _ _)).trans
    (kept_decideHead _)

theorem kept_appendReport (q : Nat) : Kept s (appendReport q s) :=
  ((kept_setCall s _).trans (kept_takeIntoCall _ _)).trans (kept_decideHead _)

theorem kept_suspendCall : Kept s (suspendCall s) := by
  unfold suspendCall; split
  · exact kept_setCall s _
  · exact kept_endUncharged s _ _

theorem kept_offerReport (r : Report) : Kept s (offerReport r s) := by
  unfold offerReport; split
  · split
    · exact .refl s
    · split
      · split
        · exact kept_insertReport _ _
        · exact kept_suspendCall s
      · split
        · exact kept_appendReport _ _
        · exact .refl s
  · exact .refl s

theorem kept_writeHistory (e : HistoryEntry) : Kept s (writeHistory e s) := kept_queue _ _

theorem kept_placeReport (r : Report) : Kept s (placeReport r s) :=
  ((kept_queue s _).trans (kept_decideHead _)).trans (kept_offerReport _ _)

theorem kept_evict (v : Report) : Kept s (evict v s) := (kept_queue s _).trans (kept_writeHistory _ _)

theorem kept_refuse (q : Nat) (m : Matter) : Kept s (refuse q m s) := (kept_writeHistory s _).trans (kept_queue _ _)

theorem kept_giveSeq : Kept s (giveSeq s) := kept_queue _ _

theorem kept_enterNumbered (q : Nat) (m : Matter) : Kept s (enterNumbered q m s).1 := by
  unfold enterNumbered; split
  · exact kept_placeReport _ _
  · split
    · exact (kept_evict s _).trans (kept_placeReport _ _)
    · exact kept_refuse _ _ _

theorem kept_enterReport (m : Matter) : Kept s (enterReport m s).1 := by
  unfold enterReport; dsimp only; split
  · split
    · exact (kept_giveSeq s).trans (kept_writeHistory _ _)
    · exact (kept_giveSeq s).trans (kept_enterNumbered _ _ _)
  · exact (kept_giveSeq s).trans (kept_writeHistory _ _)

/-! ### The trouble unit -/

theorem kept_makePending (c : Condition) (m : Matter) : Kept s (makePending c m s) :=
  (kept_setCond s _ _).trans (kept_trouble _ _)

theorem kept_handTrouble (c : Condition) (m : Matter) : Kept s (handTrouble c m s).1 := by
  have h := kept_enterReport s m
  unfold handTrouble
  split <;> rename_i e <;> rw [e] at h
  · exact h.trans (kept_makePending _ _ _)
  · exact h

theorem kept_noticeOnly (c : Condition) (b : Bool) : Kept s (noticeOnly c b s).1 := by
  unfold noticeOnly; split
  · exact .refl s
  · dsimp only; split
    · exact (kept_setCond s _ _).trans (kept_handTrouble _ _ _)
    · exact kept_setCond s _ _

theorem kept_overflowBegins (b : Bool) : Kept s (overflowBegins b s) := by
  unfold overflowBegins; split
  · exact kept_noticeOnly s _ _
  · exact .refl s

theorem kept_tellTrouble (c : Condition) (b : Bool) : Kept s (tellTrouble c b s) :=
  (kept_noticeOnly s c b).trans (kept_overflowBegins _ _)

theorem kept_handReport (m : Matter) : Kept s (handReport m s) := by
  have h := kept_enterReport s m
  unfold handReport
  split <;> rename_i e <;> rw [e] at h
  · exact h.trans (kept_overflowBegins _ _)
  · exact h

theorem kept_handPending : ∀ (n : Nat) (s : State), Kept s (handPending n s)
  | 0, s => .refl s
  | n + 1, s => by
    unfold handPending; split
    · exact .refl s
    · rename_i p _
      have h := kept_enterReport s p.matter
      split <;> rename_i e <;> rw [e] at h
      · exact (h.trans (kept_makePending _ _ _)).trans (kept_overflowBegins _ _)
      · exact (h.trans (kept_setCond _ _ _)).trans (kept_handPending n _)

theorem kept_afterRemoval : Kept s (afterRemoval s) := by
  unfold afterRemoval; dsimp only; split <;> split
  · exact ((kept_queue s _).trans (kept_tellTrouble _ _ _)).trans (kept_handPending _ _)
  · exact kept_handPending _ _
  · exact (kept_queue s _).trans (kept_tellTrouble _ _ _)
  · exact .refl s

theorem kept_removeReport (r : Report) (f : Fate) : Kept s (removeReport r f s) :=
  (((kept_queue s _).trans (kept_writeHistory _ _)).trans (kept_decideHead _)).trans (kept_afterRemoval _)

theorem kept_callSucceeded : Kept s (callSucceeded s) := by
  unfold callSucceeded; split
  · exact .refl s
  · exact kept_tellTrouble _ _ _

theorem kept_returnCharged (q : Nat) : Kept s (returnCharged q s) := by
  unfold returnCharged; split
  · exact .refl s
  · dsimp only; split
    · exact (kept_setReport s _ _).trans (kept_decideHead _)
    · exact ((kept_setReport s _ _).trans (kept_decideHead _)).trans (kept_tellTrouble _ _ _)

/-- Returning several reports of the batch with an attempt charged. -/
theorem kept_returnsCharged (l : List BatchEntry) : Kept s (l.foldl (fun t e => returnCharged e.seq t) s) :=
  Kept.foldl (fun (t : State) (e : BatchEntry) => returnCharged e.seq t) (fun t e => kept_returnCharged t e.seq) l s

theorem kept_endCharged : Kept s (endCharged s) := by
  unfold endCharged
  exact ((kept_beginClosing s).trans (kept_returnsCharged _ _)).trans (kept_leaveCall _)

theorem kept_endCall (c : EndCause) : Kept s (endCall c s) := by
  cases c <;> first | exact kept_endCharged s | exact kept_endUncharged s _ _

theorem kept_callTone (y : Sym) (d : Nat) : Kept s (callTone y d s) := by
  unfold callTone; split
  · exact kept_requestTone _ _ _ _
  · exact .refl s

theorem kept_dialSymbol : Kept s (dialSymbol s) := by
  unfold dialSymbol; split
  · exact (kept_setCall s _).trans (kept_callTone _ _ _)
  · exact kept_setCall s _
  · exact kept_setCall s _

theorem kept_startDialling : Kept s (startDialling s) := (kept_setCall s _).trans (kept_dialSymbol _)

theorem kept_sendSymbol : Kept s (sendSymbol s) := by
  unfold sendSymbol; split
  · exact (kept_setCall s _).trans (kept_callTone _ _ _)
  · exact kept_setCall s _

theorem kept_beginBlock : Kept s (beginBlock s) := (kept_setCall s _).trans (kept_sendSymbol _)

theorem kept_deliver (q : Nat) (l : Option LineNo) (d : Option DestId) : Kept s (deliver q l d s) := by
  unfold deliver; split
  · exact kept_removeReport _ _ _
  · exact .refl s

theorem kept_coverReport (p q : Nat) : Kept s (coverReport p q s) := by
  unfold coverReport; split
  · split
    · exact .refl s
    · exact kept_removeReport _ _ _
  · exact .refl s

end

end Sys2Proof.Machine
end

