-- ==== Sys2Proof/Laws/Calm.lean ====
section
/-! SUPPORT. What the line units and the access controller leave alone: besides all that `Kept` names, the queue, the call and the
trouble unit. -/

namespace Sys2Proof.Machine

/-- Two states that differ only in lines, tone, access and decoders. -/
structure Calm (s t : State) : Prop where
  kept : Kept s t
  queue : t.queue = s.queue
  call : t.call = s.call
  trouble : t.trouble = s.trouble

section
variable {s t u : State}

theorem Calm.refl (s : State) : Calm s s := ⟨.refl s, rfl, rfl, rfl⟩

theorem Calm.trans (h : Calm s t) (k : Calm t u) : Calm s u :=
  ⟨h.kept.trans k.kept, k.queue.trans h.queue, k.call.trans h.call, k.trouble.trans h.trouble⟩

theorem Calm.report (h : Calm s t) (q : Nat) : t.report q = s.report q := by simp [State.report, h.queue]
theorem Calm.headReport (h : Calm s t) : t.headReport = s.headReport := by
  have : t.report = s.report := funext h.report
  simp [State.headReport, h.queue, this]
theorem Calm.cond (h : Calm s t) (c : Condition) : t.cond c = s.cond c := by simp [State.cond, h.trouble]
theorem Calm.onlyAccess (h : Calm s t) : OnlyAccess s t :=
  ⟨h.kept.now, h.kept.phase, h.kept.settings, h.kept.channels, h.queue, h.call, h.trouble, h.kept.heard, h.kept.port⟩

end

section
variable (s : State)

theorem calm_setLine (l : LineNo) (f : Line → Line) : Calm s (s.setLine l f) := ⟨kept_setLine s l f, rfl, rfl, rfl⟩
theorem calm_setDecoder (l : LineNo) (f : Decoder → Decoder) : Calm s (s.setDecoder l f) :=
  ⟨kept_setDecoder s l f, rfl, rfl, rfl⟩
theorem calm_setAccess (a : AccessState) : Calm s (s.setAccess a) := ⟨kept_setAccess s a, rfl, rfl, rfl⟩
theorem calm_tone (t : ToneOutput) : Calm s { s with tone := t } := ⟨kept_tone s t, rfl, rfl, rfl⟩
theorem calm_moveCursor (l : LineNo) : Calm s (moveCursor l s) := ⟨kept_moveCursor s l, rfl, rfl, rfl⟩

/-! ### Line units and the tone output -/

theorem calm_startTone (r : ToneRequest) : Calm s (startTone r s) := (calm_setLine s _ _).trans (calm_tone _ _)

theorem calm_requestTone (l : LineNo) (y : Sym) (d : Nat) : Calm s (requestTone l y d s) := by
  unfold requestTone
  split
  · split
    · exact calm_startTone _ _
    · exact calm_tone _ _
  · exact .refl s

theorem calm_silenceLine (l : LineNo) : Calm s (silenceLine l s) := (calm_setLine s _ _).trans (calm_tone _ _)

theorem calm_raiseGarbled (l : LineNo) : Calm s (raiseGarbled l s) := by
  unfold raiseGarbled; split <;> first | exact .refl s | exact calm_setLine _ _ _

theorem calm_discardStream (l : LineNo) : Calm s (discardStream l s) := by
  unfold discardStream; split
  · exact .refl s
  · exact (calm_setDecoder s _ _).trans (calm_raiseGarbled _ _)

theorem calm_seizeLine (check : Bool) (l : LineNo) : Calm s (seizeLine check l s) :=
  (calm_discardStream s l).trans (calm_setLine _ _ _)

theorem calm_reseizeLine (l : LineNo) : Calm s (reseizeLine l s) := calm_setLine _ _ _

theorem calm_dropToGuard (n : Bool) (l : LineNo) : Calm s (dropToGuard n l s) :=
  (calm_setLine s _ _).trans (calm_silenceLine _ _)

theorem calm_releaseLine (b : Holder) (k : ReleaseKind) (l : LineNo) : Calm s (releaseLine b k l s) := by
  unfold releaseLine
  split
  · split
    · cases k
      · exact calm_dropToGuard _ _ _
      · exact calm_dropToGuard _ _ _
      · exact (calm_setLine s _ _).trans (calm_silenceLine _ _)
    · cases k
      · exact calm_setLine _ _ _
      · exact calm_setLine _ _ _
      · exact .refl s
    · exact .refl s
  · exact .refl s

/-! ### The access controller -/

theorem calm_awaitLine (t0 : Nat) : Calm s (awaitLine t0 s) := by
  unfold awaitLine; split
  · exact calm_setAccess _ _
  · split <;> exact calm_setAccess _ _

theorem calm_takeIdle (t0 : Nat) (l : LineNo) : Calm s (takeIdle t0 l s) :=
  ((calm_seizeLine s _ _).trans (calm_moveCursor _ _)).trans (calm_setAccess _ _)

theorem calm_chooseLine (t0 : Nat) : Calm s (chooseLine t0 s) := by
  unfold chooseLine; dsimp only; split
  · split
    · exact (calm_awaitLine s _).trans (calm_takeIdle _ _ _)
    · exact calm_awaitLine s _
  · exact calm_awaitLine s _

theorem calm_seizeChosen : Calm s (seizeChosen s) := by
  unfold seizeChosen; split
  · split
    · exact calm_takeIdle _ _ _
    · exact calm_chooseLine _ _
  · exact .refl s

theorem calm_seizeIfDue : Calm s (seizeIfDue s) := by
  unfold seizeIfDue; split
  · split
    · exact calm_seizeChosen s
    · exact .refl s
  · exact .refl s

theorem calm_startAcquisition : Calm s (startAcquisition s) := by
  unfold startAcquisition; split
  · exact calm_chooseLine _ _
  · exact .refl s

theorem calm_releaseAndChoose (t0 : Nat) (l : LineNo) : Calm s (releaseAndChoose t0 l s) :=
  (calm_releaseLine s _ _ _).trans (calm_chooseLine _ _)

theorem calm_releaseAndIdle (l : LineNo) : Calm s (releaseAndIdle l s) :=
  (calm_releaseLine s _ _ _).trans (calm_setAccess _ _)

theorem calm_beginDemand (t0 : Nat) (l : LineNo) (rec : PreemptRecord) (c : ReportClass) :
    Calm s (beginDemand t0 l rec c s) := (calm_requestTone s _ _ _).trans (calm_setAccess _ _)

theorem calm_preemptSeize (t0 : Nat) (l : LineNo) (c : ReportClass) : Calm s (preemptSeize t0 l c s) := by
  unfold preemptSeize; split
  · exact ((calm_seizeLine s _ _).trans (calm_moveCursor _ _)).trans (calm_beginDemand _ _ _ _ _)
  · exact calm_chooseLine _ _

theorem calm_preemptionTest : Calm s (preemptionTest s) := by
  unfold preemptionTest; split
  · split
    · split
      · exact calm_preemptSeize _ _ _ _
      · exact .refl s
    · exact .refl s
  · exact .refl s

theorem calm_laterPreemptionTest : Calm s (laterPreemptionTest s) := by
  unfold laterPreemptionTest; split
  · exact calm_preemptionTest s
  · exact .refl s

theorem calm_headLost : Calm s (headLost s) := by
  unfold headLost; split
  · exact .refl s
  all_goals first | exact calm_setAccess _ _ | exact calm_releaseAndIdle _ _

theorem calm_headReplaced (r : Report) : Calm s (headReplaced r s) := by
  unfold headReplaced; split
  · exact calm_startAcquisition s
  · split
    · exact calm_chooseLine _ _
    · exact calm_laterPreemptionTest s
  · split
    · exact (calm_setAccess s _).trans (calm_seizeIfDue _)
    · exact calm_chooseLine _ _
  · exact .refl s
  · split
    · split
      · exact .refl s
      · exact calm_releaseAndChoose _ _ _
    · exact .refl s
  · split
    · exact calm_setAccess _ _
    · exact calm_releaseAndChoose _ _ _

theorem calm_accessHeadChange : Calm s (accessHeadChange s) := by
  unfold accessHeadChange; split
  · exact calm_headLost s
  · exact calm_headReplaced s _

theorem calm_accessLineNotice (l : LineNo) : Calm s (accessLineNotice l s) := by
  unfold accessLineNotice; split
  · split
    · split
      · exact calm_chooseLine _ _
      · exact calm_laterPreemptionTest s
    · exact .refl s
  · split
    · exact calm_chooseLine _ _
    · exact .refl s
  · split
    · exact calm_releaseAndChoose _ _ _
    · exact .refl s
  all_goals exact .refl s

theorem calm_accessOccupantNotice (l : LineNo) : Calm s (accessOccupantNotice l s) := by
  unfold accessOccupantNotice; split
  · exact calm_laterPreemptionTest s
  · exact .refl s

theorem calm_setOccupant (l : LineNo) (c : ReportClass) : Calm s (setOccupant l c s) := by
  unfold setOccupant; split
  · split
    · exact .refl s
    · exact (calm_setLine s _ _).trans (calm_accessOccupantNotice _ _)
  · exact .refl s

theorem calm_checkClear (t0 : Nat) (l : LineNo) : Calm s (checkClear t0 l s) := by
  unfold checkClear; split
  · exact calm_releaseAndIdle _ _
  · split
    · exact calm_setAccess _ _
    · exact calm_releaseAndChoose _ _ _


/-! ### The head decided anew (R30) -/

/-- Two states that differ only in the head, lines, tone, access and decoders. -/
structure HeadOnly (s t : State) : Prop where
  kept : Kept s t
  queue : t.queue = { s.queue with head := t.queue.head }
  call : t.call = s.call
  trouble : t.trouble = s.trouble

theorem Calm.headOnly {s t : State} (h : Calm s t) : HeadOnly s t := ⟨h.kept, by rw [h.queue], h.call, h.trouble⟩

theorem HeadOnly.trans {s t u : State} (h : HeadOnly s t) (k : HeadOnly t u) : HeadOnly s u :=
  ⟨h.kept.trans k.kept, by rw [k.queue, h.queue], k.call.trans h.call, k.trouble.trans h.trouble⟩

theorem HeadOnly.reports {s t : State} (h : HeadOnly s t) : t.queue.reports = s.queue.reports := by rw [h.queue]
theorem HeadOnly.history {s t : State} (h : HeadOnly s t) : t.queue.history = s.queue.history := by rw [h.queue]
theorem HeadOnly.counter {s t : State} (h : HeadOnly s t) : t.queue.counter = s.queue.counter := by rw [h.queue]
theorem HeadOnly.overflow {s t : State} (h : HeadOnly s t) : t.queue.overflow = s.queue.overflow := by rw [h.queue]
theorem HeadOnly.overflowMark {s t : State} (h : HeadOnly s t) : t.queue.overflowMark = s.queue.overflowMark := by
  rw [h.queue]
theorem HeadOnly.cond {s t : State} (h : HeadOnly s t) (c : Condition) : t.cond c = s.cond c := by
  simp [State.cond, h.trouble]
theorem HeadOnly.report {s t : State} (h : HeadOnly s t) (q : Nat) : t.report q = s.report q := by
  simp [State.report, h.reports]

/-- Deciding the head changes the head, and through the access controller lines and tones; and nothing else. -/
theorem headOnly_decideHead : HeadOnly s (decideHead s) := by
  unfold decideHead; split
  · exact (Calm.refl s).headOnly
  · have h : HeadOnly s { s with queue := { s.queue with head := s.firstEligible } } := ⟨kept_queue s _, rfl, rfl, rfl⟩
    dsimp only; split
    · exact h.trans (calm_accessHeadChange _).headOnly
    · exact h

/-- After a decision the head is the first eligible report of before. -/
theorem head_decideHead : (decideHead s).queue.head = s.firstEligible := by
  unfold decideHead; split
  · rename_i h; exact h.symm
  · dsimp only; split
    · rw [(calm_accessHeadChange _).queue]
    · rfl

/-- In a call nothing but the head changes. -/
theorem decideHead_inCall (h : s.call.state ≠ .idle) :
    decideHead s = { s with queue := { s.queue with head := s.firstEligible } } := by
  unfold decideHead; split
  · rename_i e; rw [e]
  · simp

end

end Sys2Proof.Machine
end

