-- ==== Sys2Proof/Laws/Operations.lean ====
section
/-! SUPPORT. What each shared operation can do, said once as a list of its cases with the guard of each, so that a proof cites the
cases and does not unfold the operation. -/

namespace Sys2Proof.Machine

section
variable (s : State)

/-- An event has its effect when it is due, and none when it is not. -/
theorem whenDue_cases (due : Bool) (effect : State → State) :
    (due = true ∧ whenDue due effect s = .next (effect s)) ∨ (due = false ∧ whenDue due effect s = .next s) := by
  cases due <;> simp [whenDue]

/-! ### The tone output and the line units -/

/-- A tone request is refused off HELD, begins at once on a silent output, and waits behind a sounding tone (R68). -/
theorem requestTone_cases (l : LineNo) (y : Sym) (d : Nat) :
    ((s.line l).state ≠ .held ∧ requestTone l y d s = s) ∨
    ((s.line l).state = .held ∧ s.tone.sounding = none ∧ requestTone l y d s = startTone ⟨l, y, d⟩ s) ∨
    ((s.line l).state = .held ∧ s.tone.sounding.isSome ∧
      requestTone l y d s = { s with tone := { s.tone with waiting := s.tone.waiting ++ [⟨l, y, d⟩] } }) := by
  unfold requestTone
  split
  · rename_i held
    split <;> rename_i tone
    · exact .inr (.inl ⟨held, tone, rfl⟩)
    · exact .inr (.inr ⟨held, by simp [tone], rfl⟩)
  · rename_i held
    exact .inl ⟨held, rfl⟩

/-- A release request takes a line out of HELD or BREAK, and only for its holder; every other one changes nothing (R62). -/
theorem releaseLine_cases (b : Holder) (k : ReleaseKind) (l : LineNo) :
    releaseLine b k l s = s ∨
    ((s.line l).holder = some b ∧ (s.line l).state = .held ∧ k ≠ .brk ∧
      releaseLine b k l s = dropToGuard (k = .noYield) l s) ∨
    ((s.line l).holder = some b ∧ (s.line l).state = .held ∧ k = .brk ∧
      releaseLine b k l s = silenceLine l (s.setLine l fun ln => ln.openRelay s.now .break (some .access))) ∨
    ((s.line l).holder = some b ∧ (s.line l).state = .break ∧ k ≠ .brk ∧
      releaseLine b k l s = s.setLine l fun ln =>
        { ln.receiverAnew s.now with
          state := .guard, enteredAt := s.now, periodOver := false, holder := none, noYield := k = .noYield }) := by
  unfold releaseLine
  by_cases held : (s.line l).holder = some b
  · rw [if_pos held]
    split <;> rename_i st
    · cases k
      · exact .inr (.inl ⟨held, st, by simp, rfl⟩)
      · exact .inr (.inl ⟨held, st, by simp, rfl⟩)
      · exact .inr (.inr (.inl ⟨held, st, rfl, rfl⟩))
    · cases k
      · exact .inr (.inr (.inr ⟨held, st, by simp, rfl⟩))
      · exact .inr (.inr (.inr ⟨held, st, by simp, rfl⟩))
      · exact .inl rfl
    · exact .inl rfl
  · rw [if_neg held]; exact .inl rfl

/-! ### The access controller -/

/-- Awaiting a line ends the acquisition with no head, waits with no permitted IDLE line, and holds off on the first one of the
rotation (R74, R77). -/
theorem awaitLine_cases (t0 : Nat) :
    (s.headReport = none ∧ awaitLine t0 s = s.setAccess .idle) ∨
    (∃ r, s.headReport = some r ∧ firstIdle s r.matter.cls = none ∧
      awaitLine t0 s = s.setAccess (.wait t0 s.now false)) ∨
    (∃ r l, s.headReport = some r ∧ firstIdle s r.matter.cls = some l ∧
      awaitLine t0 s = s.setAccess (.holdoff t0 l (holdoffTime s r) (deadlineBase t0 l s)
        (deadlineBase t0 l s + holdoffTime s r))) := by
  unfold awaitLine
  split
  · rename_i h; exact .inl ⟨h, rfl⟩
  · rename_i r h
    split
    · rename_i i; exact .inr (.inl ⟨r, h, i, rfl⟩)
    · rename_i l i; exact .inr (.inr ⟨r, l, h, i, rfl⟩)

/-- A chosen line is seized at once when its deadline is not later than now and the seize is accepted, and otherwise awaited (R74,
R79, R82). -/
theorem chooseLine_cases (t0 : Nat) :
    chooseLine t0 s = awaitLine t0 s ∨
    (∃ t l h base due, (awaitLine t0 s).access.state = .holdoff t l h base due ∧ due ≤ s.now ∧
      idleSeizeAccepted l s = true ∧ chooseLine t0 s = takeIdle t0 l (awaitLine t0 s)) := by
  unfold chooseLine
  dsimp only
  split
  · rename_i t l h base due st
    split
    · rename_i now; exact .inr ⟨t, l, h, base, due, st, now.1, now.2, rfl⟩
    · exact .inl rfl
  · exact .inl rfl

/-! ### The report queue -/

/-- The report of a sequence number after a change of one report. The change keeps every number. -/
theorem setReport_report (q p : Nat) (f : Report → Report) (keeps : ∀ r, (f r).seq = r.seq) :
    (s.setReport q f).report p = if p = q then (s.report p).map f else s.report p := by
  simp only [State.report, State.setReport]
  induction s.queue.reports with
  | nil => simp
  | cons r rest ih =>
    simp only [List.map_cons, List.find?_cons]
    by_cases rq : r.seq = q <;> by_cases rp : r.seq = p <;> simp_all
    · rw [if_neg (Ne.symm rp), if_neg (Ne.symm rp)]

/-- A report handed is written to the history unplaced, placed with or without an eviction, or refused; which of these it is
says its class's route, the peer listener's answer and the room in the queue (R32 to R36). -/
theorem enterReport_cases (m : Matter) :
    (s.settings.hasRoute m.cls = false ∧
      enterReport m s = (writeHistory ⟨s.queue.newSeq, m, .notRouted, s.clock⟩ (giveSeq s), .notRouted)) ∨
    (s.settings.hasRoute m.cls = true ∧ ∃ peer, consult m s = some peer ∧
      enterReport m s = (writeHistory ⟨s.queue.newSeq, m, .covered peer, s.clock⟩ (giveSeq s), .covered)) ∨
    (s.settings.hasRoute m.cls = true ∧ consult m s = none ∧ s.queue.reports.length < 32 ∧
      enterReport m s = (placeReport (newReport s.queue.newSeq m s) (giveSeq s), .placed)) ∨
    (s.settings.hasRoute m.cls = true ∧ consult m s = none ∧ 32 ≤ s.queue.reports.length ∧
      ∃ v, victim m.cls s.queue.reports = some v ∧
        enterReport m s = (placeReport (newReport s.queue.newSeq m s) (evict v (giveSeq s)), .placed)) ∨
    (s.settings.hasRoute m.cls = true ∧ consult m s = none ∧ 32 ≤ s.queue.reports.length ∧
      victim m.cls s.queue.reports = none ∧
        enterReport m s = (refuse s.queue.newSeq m (giveSeq s), .refused (!s.queue.overflowMark))) := by
  have new : newReport s.queue.newSeq m (giveSeq s) = newReport s.queue.newSeq m s := rfl
  by_cases route : s.settings.hasRoute m.cls = true
  · cases word : consult m s with
    | some peer =>
      refine .inr (.inl ⟨route, peer, rfl, ?_⟩)
      simp [enterReport, route, word]
    | none =>
      by_cases room : s.queue.reports.length < 32
      · refine .inr (.inr (.inl ⟨route, rfl, room, ?_⟩))
        have room' : (giveSeq s).queue.reports.length < 32 := room
        simp [enterReport, route, word, enterNumbered, room', new]
      · have room' : ¬ (giveSeq s).queue.reports.length < 32 := room
        cases v : victim m.cls s.queue.reports with
        | some r =>
          have v' : victim m.cls (giveSeq s).queue.reports = some r := v
          refine .inr (.inr (.inr (.inl ⟨route, rfl, Nat.le_of_not_lt room, r, rfl, ?_⟩)))
          simp [enterReport, route, word, enterNumbered, room', v', new]
        | none =>
          have v' : victim m.cls (giveSeq s).queue.reports = none := v
          have mark : (giveSeq s).queue.overflowMark = s.queue.overflowMark := rfl
          refine .inr (.inr (.inr (.inr ⟨route, rfl, Nat.le_of_not_lt room, rfl, ?_⟩)))
          simp [enterReport, route, word, enterNumbered, room', v', mark]
  · refine .inl ⟨by simpa using route, ?_⟩
    simp [enterReport, route]

/-- An offered report is inserted, ends or marks the call, is appended, or is left to wait (R118 to R121). -/
theorem offerReport_cases (r : Report) :
    offerReport r s = s ∨
    (∃ h, s.batchHead = some h ∧ r.matter.cls.rank < h.matter.cls.rank ∧ s.fitsCall r = true ∧
      offerReport r s = insertReport r.seq s) ∨
    (∃ h, s.batchHead = some h ∧ r.matter.cls.rank < h.matter.cls.rank ∧ s.fitsCall r = false ∧
      offerReport r s = suspendCall s) ∨
    (∃ h, s.batchHead = some h ∧ h.matter.cls.rank ≤ r.matter.cls.rank ∧ s.fitsCall r = true ∧
      s.call.batch.length < 4 ∧ offerReport r s = appendReport r.seq s) := by
  unfold offerReport
  split
  · split
    · exact .inl rfl
    · rename_i h head
      split
      · rename_i rank
        split
        · rename_i fits; exact .inr (.inl ⟨h, head, rank, fits, rfl⟩)
        · rename_i fits; exact .inr (.inr (.inl ⟨h, head, rank, by simpa using fits, rfl⟩))
      · rename_i rank
        split
        · rename_i fits; exact .inr (.inr (.inr ⟨h, head, Nat.le_of_not_lt rank, fits.1, fits.2, rfl⟩))
        · exact .inl rfl
  · exact .inl rfl

/-! ### The trouble unit -/

/-- A notice of what the condition already is has no effect (R138). -/
theorem tellTrouble_same (c : Condition) (b : Bool) (h : (s.cond c).active = b) : tellTrouble c b s = s := by
  simp [tellTrouble, noticeOnly, h, overflowBegins]

/-- A notice that changes a condition while trouble reporting is off changes the condition alone (R139, R140). -/
theorem tellTrouble_silent (c : Condition) (b : Bool) (h : (s.cond c).active ≠ b)
    (off : s.settings.troubleReporting = false) : tellTrouble c b s = s.setCond c (·.change b s.clock) := by
  simp [tellTrouble, noticeOnly, h, off, overflowBegins]

/-- A charged return spaces the report's next try, or sends it to rest and makes COMM_FAIL active (R41, R42). -/
theorem returnCharged_cases (q : Nat) :
    (s.report q = none ∧ returnCharged q s = s) ∨
    (∃ r, s.report q = some r ∧ r.attempts + 1 < s.settings.maxima.get r.matter.cls ∧
      returnCharged q s = decideHead (s.setReport q fun x =>
        { x with state := .queued, attempts := r.attempts + 1, eligibleAt := s.clock + retrySpacing (r.attempts + 1) })) ∨
    (∃ r, s.report q = some r ∧ s.settings.maxima.get r.matter.cls ≤ r.attempts + 1 ∧
      returnCharged q s = tellTrouble .commFail true (decideHead (s.setReport q fun x =>
        { x with
          state := .resting, attempts := s.settings.maxima.get r.matter.cls
          restEnd := some (s.clock + 60 * s.settings.restMinutes) }))) := by
  unfold returnCharged
  split
  · rename_i h; exact .inl ⟨h, rfl⟩
  · rename_i r h
    dsimp only
    split
    · rename_i low; exact .inr (.inl ⟨r, h, low, rfl⟩)
    · rename_i low; exact .inr (.inr ⟨r, h, Nat.le_of_not_lt low, rfl⟩)

/-! ### The maintenance port -/

/-- A command given whole is lost in a start, waits behind an answer, is answered ERR OVERLONG where the buffer has no room for its
line, and otherwise acts at once (R161, R162). -/
theorem giveCommand_cases (c : PortCommand) (act : State → State) :
    (s.running = false ∧ giveCommand c act s = s) ∨
    (s.running = true ∧ s.port.answer = none ∧ (PortCommand.text c).length ≤ 64 - s.port.held ∧
      giveCommand c act s = act s) ∨
    (s.running = true ∧ s.port.answer = none ∧ 64 - s.port.held < (PortCommand.text c).length ∧
      giveCommand c act s = answerError .overlong s) ∨
    (s.running = true ∧ s.port.answer.isSome ∧
      giveCommand c act s = s.setPort fun p =>
        { p with waiting := p.waiting ++ [⟨(PortCommand.text c).take (64 - s.port.held),
            decide (64 - s.port.held < (PortCommand.text c).length)⟩] }) := by
  unfold giveCommand commandLine
  cases s.running with
  | false => exact .inl ⟨rfl, rfl⟩
  | true =>
    cases h : s.port.answer with
    | none =>
      by_cases fits : 64 - s.port.held < (PortCommand.text c).length
      · exact .inr (.inr (.inl ⟨rfl, rfl, fits, by simp [fits]⟩))
      · exact .inr (.inl ⟨rfl, rfl, Nat.le_of_not_lt fits, by simp [fits]⟩)
    | some a => exact .inr (.inr (.inr ⟨rfl, rfl, rfl⟩))

end

/-! ### The head -/

/-- Every line is one of the four. -/
theorem mem_allLines (l : LineNo) : l ∈ allLines := by fin_cases l <;> decide

/-- The first eligible report is the one that ought to be head (R30). -/
theorem firstEligible_eq_headFirst (s : State) : s.firstEligible = s.headFirst := by
  unfold State.firstEligible State.headFirst
  congr 2
  funext r
  rw [Bool.eq_iff_iff]
  simp [State.eligible, State.permits, Settings.maskNames, Settings.hasRoute, mem_allLines, and_assoc,
    Option.isSome_iff_ne_none]

/-- What deciding the head does, in the terms of the statements (R30, R38). -/
theorem decideHead_eq_headAnew (s : State) : decideHead s = s.headAnew := by
  unfold decideHead State.headAnew
  rw [firstEligible_eq_headFirst]

/-! ### The part's own events -/

/-- A report asked for by its number is one of the queue, with that number. -/
theorem report_mem {s : State} {seq : Nat} {r : Report} (h : s.report seq = some r) : r ∈ s.queue.reports ∧ r.seq = seq := by
  unfold State.report at h
  exact ⟨List.mem_of_find?_eq_some h, by simpa using List.find?_some h⟩

/-- Every event that has fallen due is among the candidates. -/
theorem mem_candidates_of_due {i : Instr} {s : State} (h : due i s = true) : i ∈ candidates s := by
  have line (l : LineNo) (j : Instr) (hj : j ∈ lineCandidates l) : j ∈ candidates s := by
    have := List.mem_flatMap.2 ⟨l, (by fin_cases l <;> decide : l ∈ allLines), hj⟩
    simp [candidates, this]
  have chan (c : ChannelNo) (j : Instr) (hj : j ∈ channelCandidates c) : j ∈ candidates s := by
    have := List.mem_flatMap.2 ⟨c, (by fin_cases c <;> decide : c ∈ allChannels), hj⟩
    simp [candidates, this]
  have report (seq : Nat) (r : Report) (hr : s.report seq = some r) (j : Instr)
      (hj : j = .eligibleAtReached seq ∨ j = .restEnd seq) : j ∈ candidates s := by
    obtain ⟨mem, rfl⟩ := report_mem hr
    have : j ∈ s.queue.reports.flatMap (fun r => [.eligibleAtReached r.seq, .restEnd r.seq]) :=
      List.mem_flatMap.2 ⟨r, mem, by simpa using hj⟩
    simp only [candidates, List.mem_append, this, or_true, true_or]
  cases i
  case eligibleAtReached seq =>
    simp only [due, eligibleAtDue, Bool.and_eq_true] at h
    cases hr : s.report seq with
    | none => simp [hr] at h
    | some r => exact report seq r hr _ (.inl rfl)
  case restEnd seq =>
    simp only [due, restEndDue, Bool.and_eq_true] at h
    cases hr : s.report seq with
    | none => simp [hr] at h
    | some r => exact report seq r hr _ (.inr rfl)
  case heardEntryExpiry key =>
    simp only [due, heardExpired, Bool.and_eq_true, List.any_eq_true, decide_eq_true_eq] at h
    obtain ⟨-, e, mem, rfl, -⟩ := h
    have : Instr.heardEntryExpiry e.key ∈ s.listener.heard.map (fun e => Instr.heardEntryExpiry e.key) :=
      List.mem_map.2 ⟨e, mem, rfl⟩
    simp only [candidates, List.mem_append, this, or_true, true_or]
  all_goals first
    | cases h
    | (rename_i n; exact line n _ (by simp [lineCandidates]))
    | (rename_i n; exact chan n _ (by simp [channelCandidates]))
    | simp [candidates]

/-- The events taken of itself are just those that have fallen due. -/
theorem mem_dueNow {i : Instr} {s : State} : i ∈ dueNow s ↔ due i s = true := by
  simpa [dueNow] using fun h => mem_candidates_of_due h

/-- An event that falls due of itself is one of the part's own. -/
theorem ownEvent_of_due {i : Instr} {s : State} (h : due i s = true) : ownEvent i = true := by
  cases i <;> first | rfl | cases h

/-- What the part takes of itself: nothing when nothing has fallen due, and otherwise one of the events that have. -/
theorem pickDue_cases (s : State) :
    (pickDue s = none ∧ ∀ i, due i s = false) ∨ ∃ i, pickDue s = some i ∧ due i s = true := by
  unfold pickDue
  cases h : dueNow s with
  | nil =>
    refine .inl ⟨rfl, fun i => ?_⟩
    by_contra hi
    have : i ∈ dueNow s := mem_dueNow.2 (by simpa using hi)
    simp [h] at this
  | cons i rest =>
    refine .inr ?_
    cases rest with
    | nil => exact ⟨i, rfl, mem_dueNow.1 (by simp [h])⟩
    | cons j rest =>
      have bound : Config.choice s.choices % (rest.length + 2) < (i :: j :: rest).length := by
        exact Nat.mod_lt _ (Nat.succ_pos _)
      refine ⟨_, List.getElem?_eq_getElem bound, mem_dueNow.1 ?_⟩
      rw [h]; exact List.getElem_mem bound

end Sys2Proof.Machine
end

