-- ==== Sys2Proof/Tests/Slice0.lean ====
section
/-! SUPPORT. Tests: the manual's worked examples, one or two small steps for each command, what `Instr.wellFormed` refuses, and, for
every statement with hypotheses, a state and operands that meet them. Expected values are the manual's. -/

namespace Sys2Proof.Tests
open Sys2Proof Sys2Proof.Machine

-- One test after another, so that the evaluations of all of them do not wait for one another at once.
set_option Elab.async false

/-! ### The bench: station 5 of the manual's examples -/

/-- The channels of the examples: 1 as in 1.3.1, 2 as in 1.8.1, 3 as in 1.5.1, 4 a FLOW channel gated by channel 1, 5 as in 1.6.1, the
others DISABLED. -/
def channelSet : Vector ChannelSettings 8 :=
  #v[{ defaultChannelSettings with
        event := 121, group := 3, mode := .contact, confirm := 5, restore := 10, restoreReporting := true },
     { defaultChannelSettings with event := 110, group := 1, mode := .contact, restoreReporting := true },
     { defaultChannelSettings with
        cls := .sprinkler, event := 131, group := 7, mode := .flow, window := 10, windows := 2, setHigh := 120, setLow := 30
        restoreReporting := true },
     { defaultChannelSettings with cls := .sprinkler, event := 132, mode := .flow, gate := some 0, setHigh := 60 },
     { defaultChannelSettings with
        cls := .boiler, event := 205, group := 12, mode := .count, window := 3600, setHigh := 3, setLow := 1
        restoreReporting := true },
     defaultChannelSettings, defaultChannelSettings, defaultChannelSettings]

/-- Station 5, account 1234, four lines open to every class, every class routed to D1 and TEST to D2 too. -/
def settings : Settings := { defaultSettings with
  station := 5, account := 1234, fitted := 15, masks := ⟨15, 15, 15, 15, 15⟩
  dest1 := [.digit 9, .pause, .digit 1], dest2 := [.digit 2]
  routes := ⟨⟨some .d1, none⟩, ⟨some .d1, none⟩, ⟨some .d1, none⟩, ⟨some .d1, none⟩, ⟨some .d1, some .d2⟩⟩
  shared := [3, 7, 0, 0, 0, 0, 0, 0], testHours := 1, channels := channelSet }

/-- The station in operation at unit clock 500, with the unique number of 4.3.1, every line SETTLING and nothing owed. -/
def bench : State := { State.reset with
  now := 500000, supply := .up, phase := .running, unique := 1000, settings := settings
  channels := channelSet.map freshChannel, lines := Vector.replicate 4 (freshLine true) }

/-- The state after a command. -/
def after (i : Instr) (s : State) : State :=
  match exec i s with
  | .next t => t
  | _ => s

/-- A report handed by a channel or by the part. -/
def matter (k : ReportClass) (q : Qualifier) (event group occurred : Nat) : Matter := ⟨k, q, event, group, .unit, none, occurred⟩

/-- A QUEUED report, eligible since it was handed. -/
def queued (seq : Nat) (m : Matter) : Report := ⟨seq, m, .queued, m.occurred, none, 0, 0, false⟩

/-- A state holding reports. -/
def holding (rs : List Report) (s : State) : State := { s with queue := { s.queue with reports := rs } }

/-- A state holding reports with the first of them head. -/
def headed (rs : List Report) (s : State) : State :=
  { holding rs s with queue := { (holding rs s).queue with head := rs.head?.map (·.seq) } }

/-- A line in a state that is neither HELD nor BREAK, entered at an instant. -/
def inState (l : LineNo) (st : LineState) (at_ : Nat) (s : State) : State :=
  s.setLine l fun ln => { ln with state := st, enteredAt := at_ }

/-- A line HELD by a block with a qualified current band, its check window opened at an instant or not. -/
def heldBy (h : Holder) (l : LineNo) (b : CurrentBand) (check : Option Nat) (s : State) : State :=
  s.setLine l fun ln =>
    { ln with
      state := .held, enteredAt := 499000, holder := some h, checkStart := check, sampledCurrent := some b
      currentSince := 499000, qualifiedCurrent := some b, qualifiedCurrentSince := 499000 }

/-- A FIRE report of channel 1, and a TEST report. -/
def fireReport : Report := queued 11 (matter .fire .alarm 121 3 480)
def testReport1 : Report := queued 12 (matter .test .status 321 0 400)

/-- A call in a state with the FIRE report on line 1, which it holds. -/
def calling (st : CallState) (f : Call → Call) : State :=
  { heldBy .call 0 .sole none (holding [{ fireReport with state := .inCall }] bench) with
    call := f { freshCall with state := st, line := some 0, dest := some .d1, batch := [⟨11, 0⟩] } }

/-! ### The manual's worked examples -/

/-- Section 1.5, the worked rates. -/
theorem test_window_rates : windowRate 37 10 = 222 ∧ windowRate 50 7 = 428 ∧ windowRate 200 1 = 9999 ∧ windowRate 59 3600 = 0
    ∧ windowRate 0 60 = 0 := by decide

/-- Section 4.3.1, the worked hold-offs. -/
theorem test_holdoffs :
    holdoffTime bench (queued 0 (matter .fire .alarm 121 3 0)) = 200
      ∧ holdoffTime bench { queued 0 (matter .fire .alarm 121 3 0) with contention := 1 } = 1060
      ∧ holdoffTime bench { queued 0 (matter .sprinkler .alarm 131 7 0) with contention := 2 } = 2220
      ∧ holdoffTime bench (queued 0 (matter .boiler .alarm 205 12 0)) = 800
      ∧ holdoffTime bench { queued 0 (matter .test .status 320 0 0) with contention := 15 } = 4680 := by decide

/-- A line chosen for a head, and the same line kept in AC_HOLDOFF for a head whose contention has risen. -/
theorem witness_Holdoff_formula :
    let idle (r : Report) := inState 2 .idle 499000 (headed [r] bench)
    let raised : Report := { fireReport with contention := 1 }
    let before := (idle raised).setAccess (.holdoff 498000 2 200 500500 500700)
    (idle fireReport).headReport = some fireReport ∧ (chooseLine 498000 (idle fireReport)).access.state = .holdoff 498000 2 200 500500 500700
      ∧ before.headReport = some raised ∧ (accessHeadChange before).access.state = .holdoff 498000 2 1060 500500 501560 := by
  decide +kernel

/-- Section 5.5.1, the worked blocks: * 1 2 3 4 0 5 0 1 1 2 1 0 3 4 #, and the check 1 of the sprinkler alarm. -/
theorem test_blocks :
    blockSyms settings (matter .fire .alarm 121 3 0) =
        [.star, .digit 1, .digit 2, .digit 3, .digit 4, .digit 0, .digit 5, .digit 0, .digit 1, .digit 1, .digit 2, .digit 1, .digit 0,
          .digit 3, .digit 4, .hash]
      ∧ (blockSyms settings { matter .sprinkler .alarmValue 131 7 0 with value := some 186 })[18]? = some (.digit 1)
      ∧ (blockSyms settings { matter .sprinkler .alarmValue 131 7 0 with value := some 186 }).length = 20 := by decide

/-- Section 6.6.1, station 7's block. -/
theorem test_heard_block :
    judgeStream [.digit 1, .digit 2, .digit 3, .digit 4, .digit 0, .digit 7, .digit 0, .digit 1, .digit 1, .digit 1, .digit 8, .digit 0,
      .digit 3, .digit 5] = some ⟨1234, 7, .fire, .alarm, 118, 3⟩ := by decide

/-- Section 2.6.1, the retry spacings, and R41. -/
theorem test_retry_spacing : retrySpacing 1 = 5 ∧ retrySpacing 2 = 10 ∧ retrySpacing 12 = 60 ∧ retrySpacing 15 = 60 := by decide

/-- Section 2.3.1: the head at 85 is seq 10. -/
theorem test_head_of_example :
    let at85 : State := { bench with now := 85000 }
    (holding [{ queued 7 (matter .fire .alarm 121 3 80) with state := .resting }, { queued 9 (matter .fire .alarm 122 3 80) with
        eligibleAt := 90 }, queued 10 (matter .sprinkler .alarm 131 7 82), queued 4 (matter .boiler .alarm 205 12 50),
      queued 0 (matter .trouble .status 310 0 0)] at85).firstEligible = some 10 := by decide

/-- Section 10.5.1: the answer to STATUS at unit clock 104. -/
theorem test_status_line :
    statusLine { holding [fireReport, testReport1] bench with now := 104000, access := ⟨.wait 0 0 false, 0⟩ }
      = "ST AC_WAIT CE_IDLE 2 0 0 104".toList := by decide

/-- Section 10.5.1: the FIRE line of the history. -/
theorem test_history_line :
    histLine ⟨11, matter .fire .alarm 121 3 80, .covered 7, 95⟩ = "H 11 FIRE 1 121 03 - 80 COVERED 95 - - 7".toList := by decide

/-- R169: some pairs of the table, and two frequencies of one group. -/
theorem test_pairs : TonePair.sym ⟨6970, 12090⟩ = some (.digit 1) ∧ TonePair.sym ⟨16330, 9410⟩ = some .d
    ∧ TonePair.sym ⟨9410, 13360⟩ = some (.digit 0) ∧ TonePair.sym ⟨6970, 7700⟩ = none := by decide

/-- Section 8.3.1: station number 0 becomes 1, and D2 written 0 1 2 3 4 X 6 7 becomes 01234; each counts one. -/
theorem test_clamping : clampNumber 1 31 0 = ⟨1, 1⟩
    ∧ clampDest [0, 1, 2, 3, 4, 11, 6, 7] = ⟨[.digit 0, .digit 1, .digit 2, .digit 3, .digit 4], 1⟩ ∧ clampDest [255] = ⟨[], 0⟩ := by
  decide

/-- Section 9.4.1: the words of the session. -/
theorem test_sorting : sortWords "BYPASS".toList ["8".toList] = .command (.bypass 8)
    ∧ sortWords ("bypass".toList.map upper) ["3".toList] = .command (.bypass 3)
    ∧ sortWords "HIST".toList ["99".toList] = .command (.hist 99) ∧ sortWords "FOO".toList [] = .error .unknown := by decide

/-! ### What `Instr.wellFormed` refuses: one ill-formed term for each check -/

theorem test_refuses_image_length : Instr.wellFormed (.imageReadEnd (List.replicate 255 0)) = false := by decide +kernel
theorem test_refuses_eligible_number : Instr.wellFormed (.eligibleAtReached 65536) = false := by decide
theorem test_refuses_rest_number : Instr.wellFormed (.restEnd 65536) = false := by decide
theorem test_refuses_heard_station : Instr.wellFormed (.heardEntryExpiry ⟨0, .fire, .alarm, 118, 3⟩) = false
    ∧ Instr.wellFormed (.heardEntryExpiry ⟨32, .fire, .alarm, 118, 3⟩) = false := by decide
theorem test_refuses_heard_class : Instr.wellFormed (.heardEntryExpiry ⟨7, .trouble, .alarm, 118, 3⟩) = false := by decide
theorem test_refuses_heard_kind : Instr.wellFormed (.heardEntryExpiry ⟨7, .fire, .status, 118, 3⟩) = false := by decide
theorem test_refuses_heard_event : Instr.wellFormed (.heardEntryExpiry ⟨7, .fire, .alarm, 99, 3⟩) = false
    ∧ Instr.wellFormed (.heardEntryExpiry ⟨7, .fire, .alarm, 400, 3⟩) = false := by decide
theorem test_refuses_heard_group : Instr.wellFormed (.heardEntryExpiry ⟨7, .fire, .alarm, 118, 100⟩) = false := by decide
theorem test_refuses_short_symbol : Instr.wellFormed (.symbolReport 0 (Sym.pair .star) 39) = false := by decide
theorem test_refuses_short_dial : Instr.wellFormed (.dialEnd 0 499) = false := by decide
theorem test_refuses_short_handshake : Instr.wellFormed (.handshakeEnd 0 299) = false := by decide
theorem test_refuses_short_ack : Instr.wellFormed (.ackEnd 0 399) = false := by decide
theorem test_takes_boundaries : Instr.wellFormed (.imageReadEnd (List.replicate 256 0)) = true
    ∧ Instr.wellFormed (.eligibleAtReached 65535) = true ∧ Instr.wellFormed (.heardEntryExpiry ⟨31, .boiler, .restore, 399, 99⟩) = true
    ∧ Instr.wellFormed (.symbolReport 3 (Sym.pair .hash) 40) = true ∧ Instr.wellFormed (.bypass 9) = true := by decide +kernel

/-! ### Helpers of the witnesses -/

/-- A receiver hears what no tone of the part's own covers. -/
theorem hears_of_silence {l : LineNo} {time : Nat} {s : State}
    (h : s.running = true ∧ (s.line l).state ≠ .unfitted ∧ (s.line l).receiverSince + time ≤ s.now ∧ s.tone.sounding = none) :
    Hears l time s := ⟨h.1, h.2.1, .inl h.2.2.1, by simp [h.2.2.2]⟩

/-- A command answers its own next state. -/
theorem exec_after (i : Instr) (s : State) (h : (match exec i s with | .next _ => true | _ => false) = true) :
    exec i s = .next (after i s) := by
  unfold after
  revert h
  cases exec i s <;> simp

/-- The bench's trouble unit has nothing pending. -/
theorem bench_nothing_pending (c : Condition) : (bench.cond c).pending = none := by
  simp [State.cond, bench, State.reset, freshTrouble, freshCondition]

/-- With every route, destination and mask in place the settings are in range. -/
theorem bench_sound : bench.queueSound ∧ bench.callSound ∧ bench.heardSound ∧ bench.portSound := by
  refine ⟨by unfold State.queueSound; decide, ⟨by decide, by decide, by decide, by decide, ?_, by decide⟩, ?_, by decide, by decide⟩
  · intro p h; cases h
  · refine ⟨by decide, by decide, by decide, by decide, ?_⟩
    intro l a k h
    revert h
    fin_cases l <;> intro h <;> cases h

/-- A channel's sampled band set long enough ago, in a state of its own. -/
def chanIn (c : ChannelNo) (b : Band) (since : Nat) (st : ChannelState) (f : Channel → Channel) : State :=
  bench.setChan c fun ch => f { ch with sampled := b, bandSince := since, state := st }

/-! ### The step, the start and the settings: states that meet the hypotheses -/

/-- With nothing waiting and nothing due, and with the supply just steady for 100 ms. -/
theorem witness_Step_with_nothing_waiting : State.reset.pending = [] ∧ (∀ i, ownEvent i = true → due i State.reset = false)
    ∧ ownEvent .powerStable = true ∧ due .powerStable { State.reset with now := 100 } = true
    ∧ dueNow { State.reset with now := 100 } = [.powerStable] := by
  refine ⟨rfl, fun i _ => ?_, by decide⟩
  by_contra h
  have none_ : dueNow State.reset = [] := by decide
  have mem : i ∈ dueNow State.reset := mem_dueNow.2 (by simpa using h)
  rw [none_] at mem; cases mem

theorem witness_Every_command_completes : ownEvent .powerStable = true ∧ due .powerStable { State.reset with now := 99 } = false
    ∧ due .powerStable { State.reset with now := 100 } = true := by decide

theorem witness_Settings_stand_between_starts : exec (.channelSample 0 749) bench = .next (after (.channelSample 0 749) bench)
    ∧ startEvent (.channelSample 0 749) = false := ⟨exec_after _ _ (by decide), by decide⟩

theorem witness_Frame_of_channels_heard_and_port :
    channelEvent (.channelSample 0 749) = some 0 ∧ channelEvent .clashEnd = none ∧ bypassEvent .clashEnd = false
      ∧ startEvent (.ackRecognised 0 23000) = false
      ∧ exec (.ackRecognised 0 23000) bench = .next (after (.ackRecognised 0 23000) bench)
      ∧ exec .clashEnd bench = .next (after .clashEnd bench) ∧ portEvent .clashEnd = false :=
  ⟨by decide, by decide, by decide, by decide, exec_after _ _ (by decide), exec_after _ _ (by decide), by decide⟩

/-- The supply up for just 100 ms, with the pin high and low; the pin low with and without the supply. -/
theorem witness_Start_and_image_read_begin :
    let s : State := { State.reset with now := 100 }
    s.supply = .rising 0 ∧ 0 + 100 ≤ s.now ∧ s.pinLow = false ∧ (after .powerStable s).phase = .reading 100
      ∧ (after .powerStable { s with pinLow := true }).phase = .starting
      ∧ (after .startPinRelease { s with pinLow := true, supply := .up }).phase = .reading 100
      ∧ (after .startPinLow { s with supply := .down }).pinLow = false := by decide

/-- An image of zeros with the magic, a version and a checksum in its last two bytes. -/
def imageWith (checkHigh checkLow : Byte) : List Byte := [165, 72, 3] ++ List.replicate 251 0 ++ [checkHigh, checkLow]

/-- A start that began to read at 100 and has come to 300, the last instant of the read. -/
def readingAt (now : Nat) : State := { State.reset with now := now, supply := .up, phase := .reading 100 }

/-- The read at its last instant: sum right, sum wrong, magic wrong, and no answer (R151 to R153). -/
theorem witness_Image_decides_settings :
    (readingAt 300).phase = .reading 100 ∧ (readingAt 300).now = 100 + 200 ∧ (imageWith 0 240).length = 256
      ∧ byteAt (imageWith 0 240) 0 = 165 ∧ byteAt (imageWith 0 240) 1 = 72
      ∧ ((List.range 254).map (byteAt (imageWith 0 240))).sum % 65536 = 240
      ∧ (after (.imageReadEnd (imageWith 0 240)) (readingAt 300)).loader.imageVersion = 3
      ∧ ((after (.imageReadEnd (imageWith 0 241)) (readingAt 300)).cond .configDefaulted).active = true
      ∧ (after (.imageReadEnd (List.replicate 256 0)) (readingAt 300)).settings = defaultSettings
      ∧ (after .imageReadTimeout (readingAt 300)).settings = defaultSettings := by decide +kernel

theorem witness_ImageReadEnded : ImageReadEnded (readingAt 300) (after (.imageReadEnd (imageWith 0 240)) (readingAt 300))
    ∧ ImageReadEnded (readingAt 300) (after .imageReadTimeout (readingAt 300)) :=
  ⟨⟨100, rfl, .inl ⟨imageWith 0 240, by decide +kernel, by decide, exec_after _ _ (by decide +kernel)⟩⟩,
    ⟨100, rfl, .inr ⟨by decide, exec_after _ _ (by decide +kernel)⟩⟩⟩

/-- Clause 2's codes: digits, the pause mark, the end code 255 and the invalid codes 11 and 254. -/
theorem witness_Image_fields_are_clamped : (∀ b ∈ [0, 9, 10], b ≤ 10) ∧ 10 < 11 ∧ 11 ≠ 255 ∧ 10 < 254 ∧ 254 ≠ 255 := by decide

/-- The bytes of a channel block with every field in range, from an offset. -/
def blockAt (o : Nat) : List (Nat × Byte) :=
  [(o + 2, 100), (o + 5, 2), (o + 11, 1), (o + 12, 1), (o + 14, 1)]

/-- The image of section 8.3.1: its slips, and every other field in range. -/
def slipsImage : List Byte :=
  let bytes : List (Nat × Byte) :=
    -- channel 7's debounce; channel 5's mode, set-points and gate; channel 6's mode and gate; channel 2's mode
    [(219, 250), (180, 2), (190, 120), (192, 150), (193, 5), (199, 2), (212, 2), (123, 3)]
      -- D1 is 5; D2 is 0 1 2 3 4 X 6 7; D3 is none; the TEST route
      ++ [(12, 5), (13, 255), (33, 1), (34, 2), (35, 3), (36, 4), (37, 11), (38, 6), (39, 7), (40, 255), (52, 255), (80, 1), (81, 3)]
      ++ [(82, 8), (83, 8), (84, 8), (85, 8), (86, 8), (87, 10), (89, 120)]
      ++ (List.range 8).flatMap fun c => blockAt (100 + 19 * c)
  (List.range 256).map fun i => ((bytes.find? fun p => p.1 = i).map (·.2)).getD 0

/-- Section 8.3.1: the working values of the slips, each counted once. -/
theorem test_image_with_slips :
    let v := (settingsOf slipsImage).value
    (settingsOf slipsImage).changes = 7 ∧ v.station = 1 ∧ (v.channels[6]).debounce = 2000 ∧ (v.channels[4]).setLow = 120
      ∧ (v.channels.map (·.gate)).toList = List.replicate 8 none
      ∧ v.dest2 = [.digit 0, .digit 1, .digit 2, .digit 3, .digit 4] ∧ v.dest3 = [] ∧ v.routes.test = ⟨some .d1, none⟩ := by decide +kernel

/-! ### Monitored inputs -/

/-- The band limits of R1, and the last instants at which a sample of each kind is looked at. -/
theorem witness_Samples_are_sorted : bench.running = true
    ∧ ((after (.channelSample 0 249) bench).chan 0).sampled = .short ∧ ((after (.channelSample 0 250) bench).chan 0).sampled = .active
    ∧ ((after (.channelSample 0 749) bench).chan 0).sampled = .active ∧ (after (.channelSample 0 750) bench) = bench
    ∧ ((after (.channelSample 0 1500) bench).chan 0).sampled = .opened ∧ after (.channelSample 7 0) bench = bench
    ∧ ((after (.lineVoltageSample 0 2999) bench).line 0).deadRunStart = some 500000
    ∧ ((after (.lineVoltageSample 0 18999) bench).line 0).sampledOnhook = some .occupied
    ∧ ((after (.lineVoltageSample 0 19000) bench).line 0).sampledOnhook = some .idle
    ∧ ((after (.loopCurrentSample 0 17999) (heldBy .call 0 .sole none bench)).line 0).sharedFromSole = true
    ∧ ((after (.loopCurrentSample 0 7999) (heldBy .call 0 .sole none bench)).line 0).sampledCurrent = some .none := by decide +kernel

/-- Every cell of the table of section 1.3 that moves, at the last instant of the debounce time, with its timers' ends. -/
theorem witness_Contact_channel :
    (bench.chanSettings 0).mode = .contact ∧ (bench.chanSettings 1).confirm = 0
      ∧ BandHeld 0 .active (chanIn 0 .active 499800 .normal id) ∧ BandHeld 1 .active (chanIn 1 .active 499800 .normal id)
      ∧ BandHeld 0 .normal (chanIn 0 .normal 499800 .confirming fun ch => { ch with qualified := .active })
      ∧ BandHeld 0 .active (chanIn 0 .active 499800 .confirming fun ch => { ch with qualified := .opened, confirmTimer := .held })
      ∧ BandHeld 0 .normal (chanIn 0 .normal 499800 .alarm fun ch => { ch with qualified := .active })
      ∧ BandHeld 0 .active (chanIn 0 .active 499800 .restoring id)
      ∧ BandHeld 0 .normal (chanIn 0 .normal 499800 .restoring fun ch => { ch with qualified := .short, restoreTimer := .held })
      ∧ BandHeld 0 .short (chanIn 0 .short 499800 .normal id) := by
  unfold BandHeld; decide +kernel

/-- The timers at their end, with the band they need and with another. -/
theorem witness_Contact_channel_timers :
    let confirming (b : Band) := chanIn 0 b 499800 .confirming fun ch => { ch with qualified := b, confirmTimer := .running 500000 }
    let restoring (b : Band) := chanIn 0 b 499800 .restoring fun ch => { ch with qualified := b, restoreTimer := .running 500000 }
    (confirming .active).running = true ∧ ((confirming .active).chan 0).confirmTimer = .running 500000
      ∧ ((after (.confirmTimerExpiry 0) (confirming .active)).chan 0).state = .alarm
      ∧ ((after (.confirmTimerExpiry 0) (confirming .short)).chan 0).confirmTimer = .held
      ∧ ((after (.restoreTimerExpiry 0) (restoring .normal)).chan 0).state = .normal
      ∧ ((after (.restoreTimerExpiry 0) (restoring .opened)).chan 0).restoreTimer = .held := by decide +kernel

/-- Section 1.3.1: the alarm at 16 with occurred 16, and the restore at 90 with value 90 − 16 = 74. -/
theorem test_confirmed_alarm_and_restore :
    let s : State := { chanIn 0 .active 11000 .confirming fun ch => { ch with qualified := .active, confirmTimer := .running 16000 } with
      now := 16000 }
    let r : State := { chanIn 0 .normal 80000 .restoring fun ch =>
      { ch with restoreTimer := .running 90000, alarmEntry := some 16 } with now := 90000 }
    (after (.confirmTimerExpiry 0) s).queue.reports.map (·.matter) = [⟨.fire, .alarm, 121, 3, .channel 0, none, 16⟩]
      ∧ (after (.restoreTimerExpiry 0) r).queue.reports.map (·.matter) = [⟨.fire, .restoreValue, 121, 3, .channel 0, some 74, 90⟩] := by
  decide +kernel

/-- A pulse on the COUNT channel: the third of a set-point-high of 3 alarms; one on the gated channel with its gate shut. -/
theorem witness_Pulses_counted_and_judged :
    let count := chanIn 4 .active 499800 .normal fun ch => { ch with pulses := 2 }
    let gated := chanIn 3 .active 499800 .normal id
    (bench.chanSettings 4).mode = .count ∧ (bench.chanSettings 3).mode = .flow
      ∧ (∀ g, (bench.chanSettings 3).gate = some g → g ≠ 3) ∧ (∀ g, (bench.chanSettings 4).gate = some g → g ≠ 4)
      ∧ BandHeld 4 .active count ∧ BandHeld 3 .active gated ∧ gateIsOpen 4 count = true ∧ gateIsOpen 3 gated = false
      ∧ (after (.channelBandQualified 4) count).queue.reports.map (·.matter)
          = [⟨.boiler, .alarmValue, 205, 12, .channel 4, some 3, 500⟩]
      ∧ ((after (.channelBandQualified 3) gated).chan 3).pulses = 0 := by
  unfold BandHeld; decide +kernel

/-- Windows at their end: 37 pulses in 10 s twice running alarm at 222; a lockout count below set-point-low restores. -/
theorem witness_Windows_end :
    let flow := chanIn 2 .normal 0 .normal fun ch => { ch with pulses := 37, consecutive := 1, windowEnd := some 500000 }
    let count := chanIn 4 .normal 0 .alarm fun ch => { ch with pulses := 0, windowEnd := some 500000 }
    flow.running = true ∧ (flow.chanSettings 2).mode = .flow ∧ (count.chanSettings 4).mode = .count
      ∧ (flow.chan 2).windowEnd = some 500000
      ∧ (after (.windowEnd 2) flow).queue.reports.map (·.matter) = [⟨.sprinkler, .alarmValue, 131, 7, .channel 2, some 222, 500⟩]
      ∧ ((after (.windowEnd 2) flow).chan 2).windowEnd = some 510000
      ∧ (after (.windowEnd 4) count).queue.reports.map (·.matter) = [⟨.boiler, .restoreValue, 205, 12, .channel 4, some 0, 500⟩] := by
  decide +kernel

/-- A wiring fault at its last instant: entry from ALARM, a change of fault band, and the exit into RESTORING. -/
theorem witness_Wiring_faults :
    let entry := chanIn 0 .opened 499000 .alarm fun ch => { ch with qualified := .active }
    let change := chanIn 0 .short 499000 .fault fun ch => { ch with faultBand := some .opened }
    let exit := chanIn 0 .normal 499000 .fault fun ch => { ch with faultBand := some .short, alarmMemory := true }
    entry.running = true ∧ (entry.chanSettings 0).mode ≠ .disabled ∧ (entry.chan 0).bandSince + 1000 = entry.now
      ∧ ((after (.wiringFaultEntry 0) entry).chan 0).alarmMemory = true
      ∧ ((after (.wiringFaultEntry 0) entry).cond (.channelOpen 0)).active = true
      ∧ ((after (.wiringFaultBandChange 0) change).chan 0).faultBand = some .short
      ∧ ((after (.wiringFaultExit 0) exit).chan 0).restoreTimer = .running 510000 := by decide +kernel

/-- A report handed with room, and one of a bypassed channel. -/
theorem witness_Channel_hands_its_report :
    (bench.chan 0).bypass = false ∧ bench.settings.hasRoute .fire = true
      ∧ consult ⟨.fire, .alarm, 121, 3, .channel 0, none, 500⟩ bench = none ∧ bench.queue.reports.length < 32
      ∧ ((bench.setChan 0 fun ch => { ch with bypass := true }).chan 0).bypass = true := by decide +kernel

/-! ### The report queue -/

/-- A queue of 32: 31 FIRE reports and a last one of a class and state. -/
def fullQueue (k : ReportClass) (st : ReportState) : State :=
  holding ((List.range 31).map (fun n => queued n (matter .fire .alarm 121 3 480))
    ++ [{ queued 40 (matter k .alarm 205 12 490) with state := st }]) bench

/-- A peer's acknowledged alarm of class FIRE and group 03, heard at an instant. -/
def heardAlarm (heard : Nat) : HeardEntry := ⟨⟨7, .fire, .alarm, 118, 3⟩, heard, true, 1⟩

/-- The bench with a heard entry. -/
def hearing (e : HeardEntry) (s : State) : State := { s with listener := { s.listener with heard := [e], ackCount := e.ackOrder } }

/-- An acknowledgement awaited on line 1. -/
def awaited (deadline : Nat) (names : Option HeardKey) (s : State) : State :=
  s.setDecoder 0 fun d => { d with awaiting := some ⟨deadline, names⟩ }

/-- A sound queue whose counter stands at 65535, a class without a route, and a report a peer has already reported. -/
theorem witness_Numbers_and_reports_not_entered :
    let last : State := { bench with queue := { bench.queue with counter := 65535 } }
    let closed : State := { bench with settings := { settings with routes := { settings.routes with test := ⟨none, none⟩ } } }
    let held : State := { holding [queued 65535 (matter .fire .alarm 121 3 480), queued 0 (matter .test .status 320 0 400)] bench with
      queue := { (holding [queued 65535 (matter .fire .alarm 121 3 480), queued 0 (matter .test .status 320 0 400)] bench).queue with
        counter := 65535 } }
    last.queueSound ∧ last.queue.newSeq = 65535 ∧ held.queueSound ∧ held.queue.newSeq = 1 ∧ closed.settings.hasRoute .test = false
      ∧ (after .test closed).queue.history.map (·.fate) = [.notRouted]
      ∧ (settings.routes.get .fire).first ≠ none ∧ consult (matter .fire .alarm 121 3 500) (hearing (heardAlarm 380) bench) = some 7 := by
  unfold State.queueSound; decide +kernel

/-- At the edge of the coverage window of 120 s, past it, and with a later word that restores. -/
theorem witness_Coverage_on_entry :
    consult (matter .fire .alarm 121 3 500) (hearing (heardAlarm 380) bench) = some 7
      ∧ consult (matter .fire .alarm 121 3 500) (hearing (heardAlarm 379) bench) = none
      ∧ (hearing (heardAlarm 380) bench).standingWord .fire 3 = some (heardAlarm 380) ∧ bench.standingWord .fire 3 = none := by decide +kernel

/-- An acknowledgement awaited for an entry of group 00, and one of a group outside the set: the report of that group stays. -/
theorem witness_Coverage_of_shared_groups :
    let entry (g : Nat) : HeardEntry := ⟨⟨7, .fire, .alarm, 118, g⟩, 494, false, 0⟩
    let s (g : Nat) := awaited 500000 (some (entry g).key) (hearing (entry g) (holding [queued 11 (matter .fire .alarm 121 g 480)] bench))
    ((s 0).decoder 0).awaiting = some ⟨500000, some (entry 0).key⟩ ∧ 9 ∉ bench.settings.shared
      ∧ (peerAck 0 (s 0)).queue.reports.length = 1 ∧ (peerAck 0 (s 9)).queue.reports.length = 1
      ∧ (peerAck 0 (s 3)).queue.reports.length = 0 := by decide +kernel

/-- A queue with room, a full one whose last BOILER report gives way to a FIRE report, and one with nothing to evict for
it: the report and QUEUE_OVERFLOW's own are refused, as at 302 in section 7.2.1. -/
theorem witness_Report_placed_or_refused :
    bench.queueSound ∧ (fullQueue .boiler .queued).queueSound ∧ (fullQueue .boiler .queued).queue.reports.length = 32
      ∧ evictable (queued 40 (matter .boiler .alarm 205 12 490)) = true
      ∧ ((handReport (matter .fire .alarm 130 3 500) (fullQueue .boiler .queued)).queue.history.map (·.seq)) = [40]
      ∧ (∀ r ∈ (fullQueue .boiler .inCall).queue.reports, evictable r = true → r.matter.cls.rank ≤ 0)
      ∧ (handReport (matter .fire .alarm 130 3 500) (fullQueue .boiler .inCall)).queue.overflow = 2
      ∧ ((handReport (matter .fire .alarm 130 3 500) (fullQueue .boiler .inCall)).cond .queueOverflow).active = true := by
  refine ⟨bench_sound.1, ?_, ?_⟩
  · unfold State.queueSound; decide +kernel
  · decide +kernel

/-- A report placed in CE_IDLE, with room and by an eviction: the first eligible report becomes head, and an acquisition starts with T0
now. -/
theorem witness_Placed_as_head :
    let fire := matter .fire .alarm 130 3 490
    let full := fullQueue .boiler .queued
    bench.call.state = .idle ∧ bench.queue.reports.length < 32 ∧ settings.hasRoute fire.cls = true ∧ consult fire bench = none
      ∧ (handReport fire bench).queue.head = some 0 ∧ (handReport fire bench).access.state.t0 = some 500000
      ∧ full.call.state = .idle ∧ full.queue.reports.length = 32 ∧ consult fire full = none
      ∧ (handReport fire full).queue.head = some 0
      ∧ (handReport fire full).access.state.t0 = some 500000 := by decide +kernel

/-- A call on line 1 with a batch of BOILER reports numbered from 20, and the FIRE report waiting. -/
def boilerCall (n : Nat) (inFlight : Bool) (suspend : Bool) : State :=
  { calling .awaitAck fun c => { c with
      inFlight := inFlight, suspend := suspend, batch := (List.range n).map fun k => ⟨20 + k, 1⟩ } with
    queue := { freshQueue with reports :=
      fireReport :: (List.range n).map fun k => { queued (20 + k) (matter .boiler .alarm 205 12 490) with state := .inCall } } }

/-- The FIRE class barred from line 1. -/
def barred (s : State) : State := { s with settings := { settings with masks := ⟨14, 15, 15, 15, 15⟩ } }

/-- A report offered to a call: inserted behind the block in flight and first, the fifth entry returned; not fitting, with a
block in flight and without; of the head's own rank with three entries and with four; a suspended call; a report handed. -/
theorem witness_Offer_to_a_call :
    let seqs (s : State) := s.call.batch.map (·.seq)
    let other := queued 30 (matter .boiler .alarm 206 12 495)
    (boilerCall 4 true false).inCall = true ∧ (boilerCall 4 true false).eligible fireReport = true
      ∧ (boilerCall 4 true false).batchHead.map (·.matter.cls) = some .boiler
      ∧ (boilerCall 4 true false).settings.currentDest fireReport = some .d1
      ∧ seqs (offerReport fireReport (boilerCall 4 true false)) = [20, 11, 21, 22]
      ∧ (offerReport fireReport (boilerCall 4 true false)).report 23 =
        some { queued 23 (matter .boiler .alarm 205 12 490) with eligibleAt := 500 }
      ∧ seqs (offerReport fireReport (boilerCall 4 false false)) = [11, 20, 21, 22]
      ∧ (offerReport fireReport (barred (boilerCall 1 true false))).call.suspend = true
      ∧ (offerReport fireReport (barred (boilerCall 1 false false))).call.state = .idle
      ∧ seqs (offerReport other (boilerCall 3 true false)) = [20, 21, 22, 30]
      ∧ offerReport other (boilerCall 4 true false) = boilerCall 4 true false
      ∧ offerReport fireReport (boilerCall 1 true true) = boilerCall 1 true true
      ∧ seqs (handReport (matter .fire .alarm 130 3 500) (boilerCall 2 true false)) = [20, 0, 21] := by decide +kernel

/-- A report eligible just now that makes the head, and a rest that ends just now. -/
theorem witness_Queued_and_resting_deadlines :
    let wait := holding [{ fireReport with eligibleAt := 500 }] bench
    let rest := holding [{ fireReport with state := .resting, restEnd := some 500, attempts := 10 }] bench
    wait.running = true ∧ wait.report 11 = some { fireReport with eligibleAt := 500 } ∧ wait.clock = 500
      ∧ (after (.eligibleAtReached 11) wait).queue.head = some 11
      ∧ rest.report 11 = some { fireReport with state := .resting, restEnd := some 500, attempts := 10 }
      ∧ (after (.restEnd 11) rest).queue.reports.map (·.attempts) = [0] ∧ (after (.restEnd 11) rest).queue.head = some 11
      ∧ (after (.restEnd 11) rest).access.state.t0 = some 500000 := by decide +kernel

/-! ### Troubles -/

/-- The test timer at its expiry, with and without a TEST report of event 320 in the queue. -/
theorem witness_Test_timer_expires :
    let due : State := { bench with trouble := { bench.trouble with testExpiry := some 500 } }
    let present := holding [queued 12 (matter .test .status 320 0 400)] due
    due.running = true ∧ due.clock = 500 ∧ (after .testTimerExpiry due).queue.reports.length = 1
      ∧ (after .testTimerExpiry due).trouble.testExpiry = some 4100 ∧ (after .testTimerExpiry present).trouble.missedTests = 1 := by
  decide +kernel

/-- A notice that changes nothing, and one that does with reporting off and on. -/
theorem witness_Condition_notices :
    let off : State := { bench with settings := { settings with troubleReporting := false } }
    (bench.cond .commFail).active = false ∧ (off.cond .commFail).active ≠ true ∧ off.settings.troubleReporting = false
      ∧ (tellTrouble .commFail true off).queue.reports = [] ∧ bench.settings.troubleReporting = true
      ∧ (tellTrouble .commFail true bench).queue.reports.map (·.matter) = [⟨.trouble, .alarm, 360, 0, .unit, none, 500⟩] := by decide +kernel

/-- A notice into a full queue: its report is refused and pends, and QUEUE_OVERFLOW's behind it; one handed again and refused pends
anew; and a queue with a TEST report to evict refuses none. -/
theorem witness_Refused_trouble_reports :
    let full := fullQueue .fire .queued
    let again : State := (full.setCond .commFail fun x => { x with pending := some ⟨Condition.commFail.report true 400, 400, 0⟩ })
    let pends (c : Condition) (s : State) := (s.cond c).pending.map fun p => (p.since, p.order)
    Refused (Condition.commFail.report true 500) full ∧ ¬ Refused (Condition.commFail.report true 500) (fullQueue .test .queued)
      ∧ (full.cond .commFail).active = false ∧ full.settings.troubleReporting = true
      ∧ pends .commFail (tellTrouble .commFail true full) = some (500, 0)
      ∧ pends .queueOverflow (tellTrouble .commFail true full) = some (500, 1)
      ∧ (allConditions.filter fun b => (again.cond b).pending.isSome) = [.commFail]
      ∧ pends .commFail (handPending 1 again) = some (500, 0) := by
  unfold Refused; decide +kernel

/-- The relay is energised on the bench; with an active condition the lamp is lit and the relay off. -/
theorem witness_Relay_and_lamps : bench.troubleRelay = true ∧ (tellTrouble .commFail true bench).troubleRelay = false
    ∧ (tellTrouble .commFail true bench).troubleLamp = .steady
    ∧ (tellTrouble .commFail false (tellTrouble .commFail true bench)).troubleLamp = .flashing 500 := by decide +kernel

/-- Dark lamps: in a start, and in GUARD, RESTORING and with nothing wrong in operation. -/
theorem witness_Dark_lamps : bench.troubleLamp = .dark ∧ State.reset.lineLamp 0 = .dark
    ∧ (inState 0 .guard 0 bench).lineLamp 0 = .dark ∧ (inState 0 .suspect 0 bench).lineLamp 0 = .flashing 125
    ∧ (chanIn 0 .normal 0 .restoring id).channelLamp 0 = .dark ∧ (chanIn 0 .normal 0 .alarm id).channelLamp 0 = .steady
    ∧ ({ chanIn 0 .normal 0 .alarm id with phase := .starting } : State).channelLamp 0 = .dark := by decide +kernel

/-! ### Line access -/

/-- The FIRE report as head, and an access state. -/
def acquiring (a : AccessState) (s : State) : State := (headed [fireReport] s).setAccess a

/-- The preempt record of the first demand of a FIRE head, its D begun at 499000. -/
def demanding : PreemptRecord := ⟨none, .demanding, 1, none, 503000, .fire, none, none⟩

/-- A line HELD by the access controller in AC_PREEMPT. -/
def preempting (rec : PreemptRecord) : State := acquiring (.preempt 497000 1 rec) (heldBy .access 1 .shared none bench)

/-- No line IDLE; line 3 IDLE since 499000 first from the cursor; the deadline reached with the line free, and with another taken. -/
theorem witness_Line_chosen_and_seized :
    let none_ := headed [fireReport] bench
    let idle := inState 2 .idle 499000 none_
    let due := idle.setAccess (.holdoff 498000 2 200 499800 500000)
    none_.headReport = some fireReport ∧ (∀ l, ¬ (Permitted none_ .fire l ∧ (none_.line l).state = .idle))
      ∧ (Permitted idle .fire 2 ∧ (idle.line 2).state = .idle)
      ∧ (∀ j : Fin 4, j < 2 → ¬ (Permitted idle .fire (0 + j) ∧ (idle.line (0 + j)).state = .idle))
      ∧ (awaitLine 498000 idle).access.state = .holdoff 498000 2 200 500500 500700
      ∧ due.running = true ∧ OthersFree due 2 ∧ ((after .holdoffDeadline due).line 2).state = .held
      ∧ ¬ OthersFree (heldBy .call 0 .sole none due) 2 ∧ (after .holdoffDeadline due).access.cursor = 3 := by
  unfold Permitted OthersFree; decide +kernel

/-- A line chosen with its deadline at just this instant is seized at once; one millisecond later, or with another line taken, it is
not. -/
theorem witness_Line_seized_at_once :
    let idle (at_ : Nat) := inState 2 .idle at_ (headed [fireReport] bench)
    (chooseLine 499800 (idle 498300)).access = ⟨.check 499800 2, 3⟩ ∧ ((chooseLine 499800 (idle 498300)).line 2).state = .held
      ∧ (chooseLine 499800 (idle 498301)).access.state = .holdoff 499800 2 200 499801 500001
      ∧ (chooseLine 499800 (heldBy .call 0 .sole none (idle 498300))).access.state = .holdoff 499800 2 200 499800 500000 := by decide +kernel

/-- A head lost in each kind of access state; a new head in each, in AC_HOLDOFF with its new deadline at just this instant and one
millisecond later, and where its class may use the line or not. -/
theorem witness_Head_changes :
    let heldIn (a : AccessState) (s : State) := (heldBy .access 1 .sole none (headed [fireReport] s)).setAccess a
    let lost (s : State) : State := { s with queue := freshQueue }
    let idle (at_ : Nat) := inState 2 .idle at_ (headed [fireReport] bench)
    let hold (base : Nat) := (idle 490000).setAccess (.holdoff 497000 2 1100 base 500500)
    let demand := preempting { demanding with occupant := some .sprinkler }
    let only (k : BitVec 4) (s : State) : State := { s with settings := { settings with masks := ⟨k, 15, 15, 15, 15⟩ } }
    (lost bench).headReport = none ∧ (accessHeadChange (lost (hold 499000))).access.state = .idle
      ∧ ((accessHeadChange (lost (heldIn (.check 497000 1) bench))).line 1).state = .guard
      ∧ (hold 499800).headReport = some fireReport ∧ (hold 499800).running = true ∧ 499800 + holdoffTime (hold 499800) fireReport = 500000
      ∧ (accessHeadChange (idle 499000)).access.state = .holdoff 500000 2 200 500500 500700
      ∧ (accessHeadChange ((idle 499000).setAccess (.wait 497000 498000 true))).access.state = .holdoff 497000 2 200 500500 500700
      ∧ (accessHeadChange ((headed [fireReport] bench).setAccess (.wait 497000 498000 true))).access.state = .wait 497000 498000 true
      ∧ (accessHeadChange (hold 499800)).access.state = .check 497000 2
      ∧ (accessHeadChange (hold 499801)).access.state = .holdoff 497000 2 200 499801 500001
      ∧ (accessHeadChange (only 1 (hold 499800))).access.state = .wait 497000 500000 false
      ∧ accessHeadChange (heldIn (.check 497000 1) bench) = heldIn (.check 497000 1) bench
      ∧ accessHeadChange demand = demand ∧ ((accessHeadChange (only 13 demand)).line 1).state = .guard
      ∧ (accessHeadChange (heldIn (.granted 497000 1 12 []) bench)).access.state = .granted 497000 1 11 []
      ∧ ((accessHeadChange (only 13 (heldIn (.granted 497000 1 12 []) bench))).line 1).state = .guard := by decide +kernel

/-- No candidate, or a TROUBLE head; a FIRE head with line 3 OCCUPIED by a BOILER call and line 2 by an unknown one: line 3. -/
theorem witness_Preemption_begins :
    let wait (r : Report) (s : State) : State := (headed [r] s).setAccess (.wait 497000 498000 false)
    let lines := (inState 1 .occupied 499000 (inState 2 .occupied 499000 bench)).setLine 2 fun ln => { ln with occupant := some .boiler }
    let s := wait fireReport lines
    (wait fireReport bench).headReport = some fireReport ∧ preferredCandidate (wait fireReport bench) .fire = none
      ∧ 2 ≤ (queued 12 (matter .trouble .status 310 0 400)).matter.cls.rank
      ∧ s.running = true ∧ 498000 + 2000 = s.now ∧ s.headReport = some fireReport ∧ fireReport.matter.cls.rank ≤ 1
      ∧ preferredCandidate s .fire = some 2 ∧ Candidate s .fire 2 ∧ Candidate s .fire 1 ∧ OthersFree s 2 ∧ s.tone.sounding = none
      ∧ ((after .preemptWaitExpiry s).line 2).state = .held := by
  refine ⟨by decide +kernel, by decide +kernel, by decide +kernel, by decide +kernel, by decide +kernel, by decide +kernel,
    by decide +kernel, by decide +kernel, ⟨?_, by decide +kernel, by decide +kernel, ?_⟩,
    ⟨?_, by decide +kernel, by decide +kernel, ?_⟩, ?_, by decide +kernel, by decide +kernel⟩
  · unfold Permitted; decide +kernel
  · intro o h; cases h; decide
  · unfold Permitted; decide +kernel
  · intro o h; cases h
  · unfold OthersFree; decide +kernel

/-- A preempt seize refused, for another line is taken; and an event of R78 before the preempt wait expiry and after it. -/
theorem witness_Preemption_refused_and_tested_later :
    let waiting (waited : Bool) := (inState 1 .occupied 499000 (headed [fireReport] bench)).setAccess (.wait 497000 498000 waited)
    ¬ OthersFree (heldBy .call 0 .sole none (waiting false)) 1
      ∧ (after .preemptWaitExpiry (heldBy .call 0 .sole none (waiting false))).access.state = .wait 497000 500000 false
      ∧ laterPreemptionTest (waiting false) = waiting false
      ∧ (laterPreemptionTest (waiting true)).access.state = .preempt 497000 1 { demanding with responseEnd := 504000 } := by
  unfold OthersFree; decide +kernel

/-- The gap after a D at its end, and a further demand at its instant. -/
theorem witness_Demand_goes_on :
    let gap := preempting { demanding with gapEnd := some 500000 }
    let again := preempting { demanding with nextDemand := some 500000 }
    gap.running = true ∧ gap.access.state = .preempt 497000 1 { demanding with gapEnd := some 500000 }
      ∧ (gap.line 1).state = .held ∧ gap.tone.sounding = none ∧ again.headReport = some fireReport
      ∧ (after .yieldDemandGapEnd gap).tone.sounding = some (⟨1, .digit 0, 200⟩, 500200)
      ∧ (after .yieldDemandRepeat again).tone.sounding = some (⟨1, .d, 600⟩, 500600) := by decide +kernel

/-- SOLE for just 200 ms, and the response end reached. -/
theorem witness_Preemption_succeeds_or_fails :
    let sole := preempting { demanding with soleSince := some 499800 }
    let lapsed := preempting { demanding with responseEnd := 500000 }
    sole.running = true ∧ sole.access.state = .preempt 497000 1 { demanding with soleSince := some 499800 } ∧ 499800 + 200 = sole.now
      ∧ (sole.line 1).state = .held ∧ (sole.line 1).holder = some .access
      ∧ ((after .preemptSuccess sole).line 1).state = .break
      ∧ lapsed.headReport = some fireReport ∧ ((after .preemptResponseEnd lapsed).line 1).noYield = true
      ∧ (after .preemptResponseEnd lapsed).queue.reports.map (·.contention) = [1] := by decide +kernel

/-! ### Exchange lines -/

/-- A voltage sampled for long enough, in a line's state. -/
def onhook (b : OnhookBand) (since : Nat) (st : LineState) (f : Line → Line) : State :=
  (inState 1 st 490000 bench).setLine 1 fun ln =>
    f { ln with
        sampledOnhook := some b, onhookSince := since, deadRunStart := if b = .dead then some since else none }

/-- A band that qualifies just now: IDLE to OCCUPIED, no move inside SETTLING, a stay that is over, and SUSPECT with a dead run of
just 10 s and of less. -/
theorem witness_Voltage_band_qualifies :
    let moving := onhook .occupied 499900 .idle id
    let staying := onhook .occupied 499900 .settling id
    let ended := onhook .idle 499900 .guard fun ln => { ln with periodOver := true }
    let dead := onhook .dead 490000 .guard fun ln => { ln with periodOver := true }
    moving.running = true ∧ (moving.line 1).onhookSince + 100 = moving.now ∧ (moving.line 1).qualifiedOnhook ≠ some .occupied
      ∧ ((after (.lineOnhookBandQualified 1) moving).line 1).state = .occupied
      ∧ ((after (.lineOnhookBandQualified 1) staying).line 1).state = .settling
      ∧ ((after (.lineOnhookBandQualified 1) ended).line 1).state = .idle
      ∧ ((enterOnhook 1 .dead dead).line 1).state = .faulted ∧ ((enterOnhook 1 .dead dead).line 1).faultCause = some .dead
      ∧ ((enterOnhook 1 .dead (onhook .dead 490001 .guard id)).line 1).state = .suspect := by decide +kernel

/-- Line notices: in AC_WAIT a permitted line IDLE and OCCUPIED, and one that is not permitted; in AC_HOLDOFF the chosen line lost, and another;
while DEMANDING another permitted line IDLE, and during the BREAK. -/
theorem witness_Line_notices :
    let wait := (headed [fireReport] bench).setAccess (.wait 497000 498000 true)
    let hold := (headed [fireReport] bench).setAccess (.holdoff 497000 2 200 499900 500100)
    let second (s : State) := inState 3 .idle 499000 s
    let only (s : State) : State := { s with settings := { settings with masks := ⟨7, 15, 15, 15, 15⟩ } }
    (accessLineNotice 3 (second wait)).access.state = .holdoff 497000 3 200 500500 500700
      ∧ accessLineNotice 3 (only (second wait)) = only (second wait)
      ∧ ((accessLineNotice 3 (inState 3 .occupied 499000 wait)).line 3).state = .held
      ∧ (accessLineNotice 2 hold).access.state = .wait 497000 500000 false ∧ accessLineNotice 3 (second hold) = second hold
      ∧ ((accessLineNotice 3 (second (preempting demanding))).line 1).state = .guard
      ∧ (accessLineNotice 3 (second (preempting demanding))).access.state = .holdoff 497000 3 200 500500 500700
      ∧ accessLineNotice 3 (second (preempting { demanding with phase := .break })) = second (preempting { demanding with phase := .break }) := by
  decide +kernel

/-- Each stay at its end; a dead run of just 10 s in SUSPECT and in a NO_LOOP fault; a recovery after just 5 s. -/
theorem witness_Stays_and_dead_runs_end :
    let settling := inState 1 .settling 498000 (onhook .idle 400000 .settling fun ln => { ln with qualifiedOnhook := some .idle })
    let guard_ := inState 1 .guard 498500 (onhook .idle 499950 .guard id)
    let noLoop := inState 1 .faulted 470000 (onhook .idle 400000 .faulted fun ln =>
      { ln with qualifiedOnhook := some .occupied, faultCause := some .noLoop })
    let run := onhook .dead 490000 .suspect id
    let runNoLoop := onhook .dead 490000 .faulted fun ln => { ln with faultCause := some .noLoop }
    let back := onhook .idle 495000 .faulted fun ln => { ln with faultCause := some .dead }
    settling.running = true ∧ (settling.line 1).periodOver = false
      ∧ ((after (.settlingEnd 1) settling).line 1).state = .idle
      ∧ ((after (.guardEnd 1) guard_).line 1).periodOver = true ∧ ((after (.guardEnd 1) guard_).line 1).state = .guard
      ∧ ((after (.noLoopFaultEnd 1) noLoop).line 1).state = .occupied
      ∧ (run.line 1).deadRunStart = some 490000 ∧ ((after (.deadRunLimit 1) run).line 1).state = .faulted
      ∧ ((after (.deadRunLimit 1) runNoLoop).line 1).faultCause = some .dead
      ∧ (back.line 1).onhookSince + 5000 = back.now ∧ ((after (.deadFaultRecovery 1) back).line 1).state = .idle := by
  decide +kernel

/-- SHARED for just 20 ms inside and outside a check window, for each holder. -/
theorem witness_Current_band_qualifies :
    let shared (h : Holder) (check : Option Nat) := (heldBy h 1 .sole check bench).setLine 1 fun ln =>
      { ln with sampledCurrent := some .shared, currentSince := 499980 }
    let inCheck := (acquiring (.check 497000 1) (shared .access (some 499700)))
    inCheck.running = true ∧ (inCheck.line 1).currentSince + 20 = inCheck.now ∧ (inCheck.line 1).qualifiedCurrent = some .sole
      ∧ ((after (.currentBandQualified 1) inCheck).line 1).state = .guard
      ∧ ((after (.currentBandQualified 1) inCheck).line 1).collisions = 1
      ∧ ((after (.currentBandQualified 1) (shared .access none)).line 1).qualifiedCurrent = some .shared
      ∧ ((after (.currentBandQualified 1) (shared .call none)).line 1).state = .held := by decide +kernel

/-- A change of current band told while DEMANDING, to SOLE and away from it, and with a grant. -/
theorem witness_Current_changes :
    let soleSince (s : State) := match s.access.state with
      | .preempt _ _ rec => rec.soleSince
      | _ => none
    soleSince (accessCurrentChange .sole (preempting demanding)) = some 500000
      ∧ soleSince (accessCurrentChange .shared (preempting { demanding with soleSince := some 499900 })) = none
      ∧ (accessCurrentChange .shared (acquiring (.granted 497000 1 11 [.intrusion]) bench)).access.state
        = .granted 497000 1 11 [.intrusion, .currentChange .shared] := by decide +kernel

/-- A check window at its end with SOLE since just 200 ms into it, with NONE, and with SOLE too late; a head whose class may not
use the line, and no head. -/
theorem witness_Check_window_and_result :
    let window (b : CurrentBand) (since : Nat) := acquiring (.check 497000 1)
      ((heldBy .access 1 b (some 499600) bench).setLine 1 fun ln => { ln with qualifiedCurrentSince := since })
    let barred : State := { window .sole 499800 with settings := { settings with masks := ⟨13, 15, 15, 15, 15⟩ } }
    let headless : State := { window .sole 499800 with queue := freshQueue }
    (window .sole 499800).running = true ∧ ((window .sole 499800).line 1).checkStart = some 499600
      ∧ (after (.checkWindowEnd 1) (window .sole 499800)).access.state = .granted 497000 1 11 []
      ∧ ((after (.checkWindowEnd 1) (window .sole 499801)).line 1).collisions = 1
      ∧ ((after (.checkWindowEnd 1) (window .none 499700)).line 1).faultCause = some .noLoop
      ∧ Permitted (window .sole 499800) .fire 1 ∧ ¬ Permitted barred .fire 1
      ∧ ((after (.checkWindowEnd 1) barred).line 1).state = .guard
      ∧ headless.headReport = none ∧ (after (.checkWindowEnd 1) headless).access.state = .idle := by
  unfold Permitted; decide +kernel

/-- A BREAK at its end; a release of a HELD line, of one in BREAK, and one from a block that is not the holder. -/
theorem witness_Breaks_and_releases :
    let broken := (preempting { demanding with phase := .break }).setLine 1 fun ln =>
      { ln with state := .break, sampledCurrent := none, qualifiedCurrent := none }
    let held := heldBy .call 0 .sole none bench
    broken.running = true ∧ (broken.line 1).enteredAt + 1000 = broken.now
      ∧ broken.access.state = .preempt 497000 1 { demanding with phase := .break }
      ∧ ((after (.breakEnd 1) broken).line 1).checkStart = some 500000 ∧ (after (.breakEnd 1) broken).access.state = .check 497000 1
      ∧ (held.line 0).holder ≠ some .access ∧ releaseLine .access .plain 0 held = held
      ∧ (held.line 0).holder = some .call ∧ (held.line 0).state.taken = true
      ∧ ((releaseLine .call .plain 0 held).line 0).state = .guard
      ∧ ((releaseLine .access .noYield 1 broken).line 1).noYield = true := by decide +kernel

/-- R67: a symbol that ends at the very instant of a release reaches the peer listener although it is taken after the release; one that ends
a millisecond later does not, nor does one when the release was a millisecond ago. -/
theorem test_symbol_at_a_release :
    let released := releaseLine .call .plain 0 (calling .awaitAck id)
    let later : State := { released with now := 500001 }
    ((calling .awaitAck id).line 0).formerReceiver = none ∧ (released.line 0).receiverSince = 500000
      ∧ ((after (.symbolReport 0 (Sym.pair .star) 60) released).decoder 0).stream = some ⟨[], 500000⟩
      ∧ after (.symbolReport 0 (Sym.pair .star) 60) later = later := by decide +kernel

/-- SHARED after SOLE for just 50 ms, and NONE for just 500 ms, on a call's line and on the access controller's. -/
theorem witness_Held_line_events :
    let intruded (h : Holder) := (heldBy h 0 .sole none bench).setLine 0 fun ln =>
      { ln with sampledCurrent := some .shared, currentSince := 499950, sharedFromSole := true }
    let lost (h : Holder) := (heldBy h 0 .sole none bench).setLine 0 fun ln =>
      { ln with sampledCurrent := some .none, currentSince := 499500 }
    let call : Call := { freshCall with state := .awaitAck, line := some 0, dest := some .d1, batch := [⟨11, 0⟩] }
    (intruded .call).running = true ∧ ((intruded .call).line 0).currentSince + 50 = (intruded .call).now
      ∧ ((intruded .call).line 0).checkStart = none
      ∧ (after (.intrusion 0) { intruded .call with call := call }).call.state = .paused
      ∧ ((after (.intrusion 0) (intruded .access)).line 0).sharedFromSole = false
      ∧ ((lost .call).line 0).currentSince + 500 = (lost .call).now
      ∧ (after (.loopLoss 0) { lost .call with call := call }).call.state = .idle
      ∧ ((after (.loopLoss 0) (lost .access)).line 0).lossGiven = true := by decide +kernel

/-- An intrusion and a loop loss passed with a grant; a loop loss while DEMANDING and during the BREAK, and in a call; an intrusion in a pause. -/
theorem witness_Held_line_events_taken :
    let grant := acquiring (.granted 497000 1 11 []) bench
    let paused := calling .paused fun c => { c with pause := some ⟨.awaitAck, 500001, none, false⟩ }
    (accessLoopLoss (passWithGrant .intrusion grant)).access.state = .granted 497000 1 11 [.intrusion, .loopLoss]
      ∧ ((accessLoopLoss (preempting demanding)).line 1).state = .guard
      ∧ (accessLoopLoss (preempting demanding)).access.state = .wait 497000 500000 false
      ∧ accessLoopLoss (preempting { demanding with phase := .break }) = preempting { demanding with phase := .break }
      ∧ (callLoopLoss (calling .dialling id)).queue.reports.map (·.attempts) = [1]
      ∧ (pauseCall paused).call.pause = some ⟨.awaitAck, 501000, none, false⟩ := by decide +kernel

/-! ### Tones -/

/-- Line 4 IDLE, its receiver classifying since an instant, with a changed record. -/
def quiet (since : Nat) (f : Line → Line) : State :=
  (inState 3 .idle 490000 bench).setLine 3 fun ln => f { ln with receiverSince := since }

/-- Each kind of report at the last instant the receiver can give it. -/
theorem witness_Tones_reach_peer_listener_hears :
    ((quiet 0 id).line 3).state.taken = false ∧ Hears 3 40 (quiet 499960 id) ∧ Hears 3 500 (quiet 499500 id)
      ∧ Hears 3 (450 + 450 + 450 + 450) (quiet 498200 id) ∧ Hears 3 300 (quiet 499700 id) ∧ Hears 3 400 (quiet 499600 id)
      ∧ Hears 3 0 (quiet 500000 id) := by
  refine ⟨by decide +kernel, ?_, ?_, ?_, ?_, ?_, ?_⟩ <;> exact hears_of_silence (by decide +kernel)

/-- The tone limits of R66, the record of the receiver, and SILENCE after just 300 ms. -/
theorem witness_Tones_reach_peer_listener :
    let stream (s : State) := s.setDecoder 3 fun d => { d with stream := some ⟨[], 499900⟩ }
    ((after (.symbolReport 3 (Sym.pair .star) 40) (quiet 499960 id)).decoder 3).stream = some ⟨[], 500000⟩
      ∧ ((after (.dialRecognised 3 3500) (stream (quiet 0 id))).line 3).garbled = 1
      ∧ ((after (.dialRecognised 3 5000) (quiet 0 id)).line 3).dialHeard = true
      ∧ after (.dialRecognised 3 5001) (quiet 0 id) = quiet 0 id
      ∧ ((after (.busyReport 3 4250 ⟨200, 450, 200, 450⟩) (stream (quiet 0 id))).line 3).garbled = 1
      ∧ ((after (.handshakeRecognised 3 13720) (quiet 0 id)).line 3).handshakeHeard = true
      ∧ ((after (.ackRecognised 3 23460) (quiet 0 id)).line 3).ackHeard = true
      ∧ ((after (.dialEnd 3 500) (quiet 0 fun ln => { ln with dialHeard := true })).line 3).dialHeard = false
      ∧ ((after (.handshakeEnd 3 300) (quiet 0 fun ln => { ln with handshakeHeard := true })).line 3).handshakeHeard = false
      ∧ ((after (.ackEnd 3 400) (quiet 0 fun ln => { ln with ackHeard := true })).line 3).ackHeard = false
      ∧ ((after (.silenceReport 3) (quiet 0 fun ln => { ln with toSilence := true, lastHeard := 499700 })).line 3).toSilence = false := by
  decide +kernel

/-- Reports outside their limits, on an UNFITTED line, and while the part's own tone sounds, have no effect. -/
theorem witness_Reports_without_effect :
    let q := quiet 0 id
    let unfitted := inState 3 .unfitted 490000 bench
    let sounding : State := { calling .awaitAck id with tone := ⟨some (⟨0, .star, 60⟩, 500050), []⟩ }
    after (.symbolReport 3 (Sym.pair .star) 39) q = q ∧ after (.symbolReport 3 ⟨6970, 7700⟩ 60) q = q
      ∧ after (.busyReport 3 4250 ⟨200, 451, 200, 200⟩) q = q ∧ after (.handshakeRecognised 3 14281) q = q
      ∧ after (.ackRecognised 3 22539) q = q ∧ after (.dialEnd 3 500) q = q ∧ after (.silenceReport 3) q = q
      ∧ after (.dialRecognised 3 4250) unfitted = unfitted ∧ after (.ackRecognised 0 23000) sounding = sounding := by decide +kernel

/-- R169: a pair at the edges of 2 per cent, in either order, and just outside them. -/
theorem witness_Pairs : TonePair.sym ⟨6831, 12331⟩ = some (.digit 1) ∧ TonePair.sym ⟨12331, 6831⟩ = some (.digit 1)
    ∧ TonePair.sym ⟨6830, 12331⟩ = none ∧ TonePair.sym ⟨6831, 12332⟩ = none ∧ TonePair.sym ⟨9598, 16656⟩ = some .d
    ∧ TonePair.sym ⟨12090, 13360⟩ = none := by decide

/-- The call's line hears DIAL, BUSY, HANDSHAKE with its end, and an ACK at the deadline with its end. -/
theorem witness_Tones_reach_call_engine :
    let flag (f : Line → Line) (s : State) := s.setLine 0 f
    let wait := calling .dialtoneWait fun c => { c with dialDeadline := some 500000 }
    let hand := calling .awaitHandshake fun c => { c with handshakeDeadline := some 500000 }
    let acking := calling .awaitAck fun c => { c with inFlight := true, ackDeadline := some 500000 }
    let lead := calling .awaitAck fun c => { c with ackEndAwaited := true, leadIn := some 500000 }
    (wait.line 0).state = .held ∧ wait.call.line = some 0 ∧ wait.running = true ∧ wait.tone.sounding = none
      ∧ (wait.line 0).receiverSince = 0
      ∧ (after (.dialRecognised 0 4250) wait).tone.sounding = some (⟨0, .digit 9, 80⟩, 500080)
      ∧ (after (.busyReport 0 4250 ⟨350, 350, 350, 350⟩) hand).call.state = .idle
      ∧ (after (.handshakeRecognised 0 14000) hand).call.progress = .recognised
      ∧ (after (.handshakeEnd 0 400) (flag (fun ln => { ln with handshakeHeard := true }) hand)).call.leadIn = some 500250
      ∧ (after (.ackRecognised 0 23000) acking).queue.history.map (·.fate) = [.delivered 0 .d1]
      ∧ (after (.ackEnd 0 400) (flag (fun ln => { ln with ackHeard := true }) lead)).call.leadIn = some 500250 := by decide +kernel

/-- In a pause: DIAL is noted, BUSY ends the call, HANDSHAKE and its end make the lead-in, an ACK counts; and each is without effect in a
pause from another state. -/
theorem witness_Tones_in_a_pause :
    let paused (st : CallState) (f : Call → Call) := calling .paused fun c => f { c with pause := some ⟨st, 500500, none, false⟩ }
    let ack := paused .awaitAck fun c => { c with inFlight := true, ackDeadline := some 500000 }
    let noted (s : State) := s.call.pause.map (·.dialNoted)
    noted (after (.dialRecognised 0 4250) (paused .dialtoneWait id)) = some true
      ∧ noted (after (.dialRecognised 0 4250) (paused .awaitHandshake id)) = some false
      ∧ (after (.busyReport 0 4250 ⟨350, 350, 350, 350⟩) (paused .awaitHandshake id)).call.state = .idle
      ∧ (after (.busyReport 0 4250 ⟨350, 350, 350, 350⟩) (paused .dialling id)).call.state = .paused
      ∧ (after (.handshakeRecognised 0 14000) (paused .awaitHandshake id)).call.progress = .recognised
      ∧ (after (.handshakeEnd 0 400) ((paused .awaitHandshake id).setLine 0 fun ln => { ln with handshakeHeard := true })).call.leadIn
        = some 500250
      ∧ (after (.ackRecognised 0 23000) ack).queue.history.map (·.fate) = [.delivered 0 .d1] := by decide +kernel

/-- A symbol outside a pause, DIAL's end and SILENCE on the call's line, and a DIAL on a line the access controller holds: the call engine
does nothing. -/
theorem witness_Tones_without_action :
    let hand := calling .awaitHandshake id
    let flag (f : Line → Line) := hand.setLine 0 f
    let grant := acquiring (.granted 497000 1 11 []) (heldBy .access 1 .sole none bench)
    (after (.symbolReport 0 (Sym.pair .d) 600) hand).call = hand.call ∧ ((after (.symbolReport 0 (Sym.pair .d) 600) hand).line 0).toSilence = true
      ∧ ((after (.dialEnd 0 500) (flag fun ln => { ln with dialHeard := true })).line 0).dialHeard = false
      ∧ ((after (.silenceReport 0) (flag fun ln => { ln with toSilence := true, lastHeard := 499700 })).line 0).toSilence = false
      ∧ (grant.line 1).state.taken = true ∧ grant.call.line ≠ some 1
      ∧ ((after (.dialRecognised 1 4250) grant).line 1).dialHeard = true ∧ (after (.dialRecognised 1 4250) grant).access = grant.access := by
  decide +kernel

theorem witness_Tones_reach_call_engine_hears : Hears 0 500 (calling .dialtoneWait id) ∧ Hears 0 1400 (calling .awaitHandshake id)
    ∧ Hears 0 0 (calling .awaitAck id) := by
  refine ⟨?_, ?_, ?_⟩ <;> exact hears_of_silence (by decide +kernel)

/-- A tone at its end: a dialled digit, a block symbol, and a demand's D and digit. -/
theorem witness_Tone_finishes :
    let dial : State := { calling .dialling id with tone := ⟨some (⟨0, .digit 9, 80⟩, 500000), []⟩ }
    let block : State := { calling .sendingBlock id with tone := ⟨some (⟨0, .star, 60⟩, 500000), []⟩ }
    let d : State := { preempting demanding with tone := ⟨some (⟨1, .d, 600⟩, 500000), []⟩ }
    let digit : State := { preempting { demanding with demands := 2 } with tone := ⟨some (⟨1, .digit 0, 200⟩, 500000), []⟩ }
    dial.running = true ∧ dial.call.line = some 0 ∧ dial.access.state = .idle
      ∧ (after .toneRequestDone dial).call.gapEnd = some 500080 ∧ (after .toneRequestDone block).call.gapEnd = some 500060
      ∧ d.call.line = none ∧ d.access.state = .preempt 497000 1 demanding
      ∧ (after .toneRequestDone d).access.state = .preempt 497000 1 { demanding with gapEnd := some 500200 }
      ∧ (after .toneRequestDone digit).access.state = .preempt 497000 1 { demanding with demands := 2, nextDemand := some 500400 } := by
  decide +kernel

/-- A tone at its end with another request waiting: it starts, and no gap begins. -/
theorem witness_Next_tone_starts :
    let s : State := { calling .dialling id with tone := ⟨some (⟨0, .digit 9, 80⟩, 500000), [⟨0, .digit 1, 80⟩]⟩ }
    (after .toneRequestDone s).tone = ⟨some (⟨0, .digit 1, 80⟩, 500080), []⟩ ∧ (after .toneRequestDone s).call.gapEnd = none := by
  decide +kernel

/-! ### The call -/

/-- A grant of line 2 for the FIRE report, an intrusion passed with it, and a SPRINKLER report that goes with it. -/
def granted (dial : Bool) (passed : List HeldReport) : State :=
  (headed [fireReport, queued 13 (matter .sprinkler .alarm 131 7 490)]
      (heldBy .access 1 .sole none bench)).setLine 1 (fun ln => { ln with dialHeard := dial })
    |>.setAccess (.granted 497000 1 11 passed)

theorem witness_Grant_is_taken :
    (granted false []).running = true ∧ (granted false []).call.state = .idle ∧ (granted false []).report 11 = some fireReport
      ∧ (after .takeGrant (granted false [])).call.state = .dialtoneWait
      ∧ (after .takeGrant (granted false [])).call.batch.map (·.seq) = [11, 13]
      ∧ (after .takeGrant (granted false [])).queue.reports.map (·.state) = [.inCall, .inCall]
      ∧ (after .takeGrant (granted true [])).tone.sounding = some (⟨1, .digit 9, 80⟩, 500080)
      ∧ (after .takeGrant (granted false [.intrusion])).call.state = .paused := by decide +kernel

/-- The destination 9 P 1 at its pause mark, after it, and past its end. -/
theorem witness_Dialling_goes_on :
    let at_ (pos : Nat) (mark : Bool) := calling .dialling fun c => { c with position := pos, gapEnd := some 500000, inPauseMark := mark }
    (at_ 1 false).running = true ∧ (at_ 1 false).call.line = some 0 ∧ ((at_ 1 false).line 0).state = .held
      ∧ (at_ 1 false).tone.sounding = none
      ∧ (after .dialGapEnd (at_ 1 false)).call.gapEnd = some 502000 ∧ (after .dialGapEnd (at_ 1 false)).call.inPauseMark = true
      ∧ (after .dialGapEnd (at_ 1 true)).tone.sounding = some (⟨0, .digit 1, 80⟩, 500080)
      ∧ (after .dialGapEnd (at_ 3 false)).call.handshakeDeadline = some 540000 := by decide +kernel

/-- A lead-in due, the gap before the check symbol and after the closing #, and an ACK deadline with three sends, in a pause too. -/
theorem witness_Block_is_sent :
    let lead := calling .awaitHandshake fun c => { c with leadIn := some 500000 }
    let gap (pos : Nat) := calling .sendingBlock fun c => { c with inFlight := true, position := pos, gapEnd := some 500000 }
    let expired := calling .awaitAck fun c => { c with inFlight := true, batch := [⟨11, 3⟩], ackDeadline := some 500000 }
    let paused := expired.setCall fun c => { c with state := .paused, pause := some ⟨.awaitAck, 500500, none, false⟩ }
    lead.running = true ∧ lead.call.batch = [⟨11, 0⟩] ∧ lead.report 11 = some { fireReport with state := .inCall }
      ∧ (after .leadInDue lead).tone.sounding = some (⟨0, .star, 60⟩, 500060)
      ∧ (after .blockSymbolGapEnd (gap 14)).tone.sounding = some (⟨0, .digit 4, 60⟩, 500060)
      ∧ (after .blockSymbolGapEnd (gap 16)).call.ackDeadline = some 501500
      ∧ (after .blockSymbolGapEnd (gap 16)).call.batch = [⟨11, 1⟩]
      ∧ (after .ackDeadline expired).call.state = .sendingBlock ∧ (after .ackDeadline paused).call.resendDue = true := by
  decide +kernel

/-- A peer's block of 5.5.1, and the greatest values: account 9999, station 31, value 9999. -/
theorem witness_Block_reads_back :
    (judgeStream (((blockSyms settings (matter .fire .alarm 121 3 0)).drop 1).dropLast)).isSome = true
      ∧ judgeStream (((blockSyms { settings with account := 9999, station := 31 }
          { matter .test .status 399 99 0 with cls := .boiler, qualifier := .restoreValue, value := some 9999 }).drop 1).dropLast)
        = some ⟨9999, 31, .boiler, .restoreValue, 399, 99⟩ := by decide +kernel

/-- Each deadline just reached, in its state and in a pause from it, and four sends completed. -/
theorem witness_Call_deadlines_end_the_call :
    let dial := calling .dialtoneWait fun c => { c with dialDeadline := some 500000 }
    let hand := calling .paused fun c =>
      { c with handshakeDeadline := some 500000, pause := some ⟨.awaitHandshake, 500500, none, false⟩ }
    let acks := calling .awaitAck fun c => { c with inFlight := true, batch := [⟨11, 4⟩], ackDeadline := some 500000 }
    dial.running = true ∧ (after .dialDeadline dial).queue.reports.map (·.attempts) = [1]
      ∧ hand.call.pause = some ⟨.awaitHandshake, 500500, none, false⟩ ∧ (after .handshakeDeadline hand).call.state = .idle
      ∧ (after .ackDeadline acks).queue.reports.map (·.eligibleAt) = [505] := by decide +kernel

/-- A call with its line HELD by it, charged and not; the last attempt of a class maximum of 10, after which
COMM_FAIL's report stands behind the resting one. -/
theorem witness_Call_ends :
    let s := calling .awaitAck id
    let last (n : Nat) := { s with
      call := { s.call with state := .closing }
      queue := { s.queue with reports := [{ fireReport with state := .inCall, attempts := n }] } }
    s.call.line = some 0 ∧ (s.line 0).state = .held ∧ (s.line 0).holder = some .call ∧ s.access.state = .idle
      ∧ (∀ r ∈ s.queue.reports, r.state = .inCall → r.seq ∈ s.call.batch.map (·.seq))
      ∧ (endCall .maintAbort s).queue.reports.map (·.eligibleAt) = [505]
      ∧ (endCall .yielded s).queue.reports.map (·.contention) = [1]
      ∧ (endCall .yielded s).queue.head = some 11 ∧ (endCall .maintAbort s).queue.head = none
      ∧ (endCall .noAnswer s).queue.reports.map (fun r => (r.attempts, r.eligibleAt, r.state)) = [(1, 505, .queued)]
      ∧ (last 8).call.state = .closing ∧ (last 8).report 11 = some { fireReport with state := .inCall, attempts := 8 }
      ∧ 8 + 1 < (last 8).settings.maxima.get .fire ∧ ¬ 9 + 1 < (last 9).settings.maxima.get .fire
      ∧ (returnCharged 11 (last 9)).queue.reports.map (·.restEnd) = [some 1100, none] := by decide +kernel

/-- A block acknowledged with another to follow, as the last, and with the suspend mark set. -/
theorem witness_Acknowledged_block_is_delivered :
    let two (suspend : Bool) : State :=
      { calling .awaitAck fun c => { c with inFlight := true, batch := [⟨11, 1⟩, ⟨12, 0⟩], suspend := suspend } with
        queue := { freshQueue with
          reports := [{ fireReport with state := .inCall }, { testReport1 with state := .inCall }] } }
    let one := calling .awaitAck fun c => { c with inFlight := true, batch := [⟨11, 1⟩] }
    (two false).report 11 = some { fireReport with state := .inCall } ∧ (two false).call.line = some 0 ∧ (two false).call.dest = some .d1
      ∧ ((two false).line 0).state = .held ∧ ((two false).line 0).holder = some .call ∧ (two false).queue.overflowMark = false
      ∧ (countAck (two false)).call.leadIn = some 503000 ∧ (countAck (two true)).call.state = .idle
      ∧ (countAck (two true)).queue.reports.map (·.state) = [.queued]
      ∧ (one.cond .commFail).active = false ∧ (countAck one).queue.history.map (·.fate) = [.delivered 0 .d1] := by decide +kernel

theorem witness_Acknowledged_block_nothing_pending (c : Condition) :
    ((calling .awaitAck fun c => { c with inFlight := true, batch := [⟨11, 1⟩] }).cond c).pending = none :=
  bench_nothing_pending c

/-- Freed space: with 24 held an overflow in force ends and its end report is handed, with 25 it does not; a pending report is handed where
there is room; a success that leaves nothing resting ends COMM_FAIL. -/
theorem witness_Freed_space :
    let full (n : Nat) : State := tellTrouble .queueOverflow true { bench with queue := { freshQueue with
      overflowMark := true, reports := (List.range n).map fun k => queued (100 + k) (matter .fire .alarm 121 3 480) } }
    let pend (n : Nat) : State := (full n).setCond .commFail fun x =>
      { x with pending := some ⟨Condition.commFail.report true 499, 499, 0⟩ }
    let one := (calling .awaitAck fun c => { c with inFlight := true, batch := [⟨11, 1⟩] }).setCond .commFail fun x =>
      { x with active := true }
    ((full 23).cond .queueOverflow).active = true ∧ (full 23).queue.reports.length = 24
      ∧ ((afterRemoval (full 23)).cond .queueOverflow).active = false ∧ (afterRemoval (full 23)).queue.overflowMark = false
      ∧ afterRemoval (full 24) = full 24 ∧ (afterRemoval (pend 30)).queue.reports.length = 32
      ∧ ((afterRemoval (pend 30)).cond .commFail).pending = none ∧ (one.cond .commFail).active = true
      ∧ ((countAck one).cond .commFail).active = false := by decide +kernel

/-- A call paused from a state. -/
def pausedFrom (st : CallState) (dEnded : Option Nat) (f : Call → Call) : State :=
  calling .paused fun c => f { c with pause := some ⟨st, 500000, dEnded, false⟩ }

/-- An intrusion in a call and in a pause; the pause's end from each kind of state; a D of 500 ms and a class digit begun just
300 ms after one. -/
theorem witness_Pause_of_a_call :
    let boilerCall := { pausedFrom .awaitAck (some 499500) id with
      queue := { freshQueue with reports := [{ queued 11 (matter .boiler .alarm 205 12 480) with state := .inCall }] } }
    (pauseCall (calling .dialling id)).call.state = .paused ∧ (pausedFrom .dialling none id).running = true
      ∧ (after .pauseEnd (pausedFrom .dialling none id)).call.state = .idle
      ∧ (after .pauseEnd (pausedFrom .sendingBlock none id)).tone.sounding = some (⟨0, .star, 60⟩, 500060)
      ∧ (after .pauseEnd (pausedFrom .awaitAck none id)).call.state = .awaitAck
      ∧ (after .pauseEnd (pausedFrom .awaitHandshake none fun c => { c with leadIn := some 500000 })).call.state = .sendingBlock
      ∧ (after .pauseEnd (pausedFrom .dialtoneWait none id)).call.state = .dialtoneWait
      ∧ ((after (.symbolReport 0 (Sym.pair .d) 500) (pausedFrom .awaitAck none id)).call.pause.bind (·.dEnded)) = some 500000
      ∧ ((after (.symbolReport 0 (Sym.pair .d) 499) (pausedFrom .awaitAck none id)).call.pause.bind (·.dEnded)) = none
      ∧ 500000 - 200 = 499500 + 300
      ∧ (after (.symbolReport 0 (Sym.pair (.digit 0)) 200) boilerCall).call.state = .idle
      ∧ (after (.symbolReport 0 (Sym.pair (.digit 2)) 200) boilerCall).call.state = .awaitAck
      ∧ (after (.symbolReport 0 (Sym.pair (.digit 0)) 199) boilerCall).call.state = .paused := by decide +kernel

theorem witness_Pause_of_a_call_hears : Hears 0 200 (pausedFrom .awaitAck (some 499500) id) :=
  hears_of_silence (by decide +kernel)

/-! ### Listening to peers -/

/-- Station 7's block of 6.6.1 without its * and #. -/
def station7 : List Sym := [1, 2, 3, 4, 0, 7, 0, 1, 1, 1, 8, 0, 3, 5].map digitSym

/-- A stream ending at an instant on line 1. -/
def streaming (syms : List Sym) (latestEnd : Nat) : State := bench.setDecoder 0 fun d => { d with stream := some ⟨syms, latestEnd⟩ }

/-- A symbol begun just 300 ms after the last, one later, an eighteenth and a nineteenth, and a # that ends a block. -/
theorem witness_Peer_symbols :
    ((peerSymbol 0 (.digit 1) 100 (streaming [] 499600)).decoder 0).stream = some ⟨[.digit 1], 500000⟩
      ∧ ((peerSymbol 0 (.digit 1) 100 (streaming [] 499599)).line 0).garbled = 1
      ∧ ((peerSymbol 0 (.digit 1) 100 (streaming (List.replicate 17 .a) 499900)).decoder 0).stream.isSome = true
      ∧ ((peerSymbol 0 (.digit 1) 100 (streaming (List.replicate 18 .a) 499900)).decoder 0).stream = none
      ∧ ((peerSymbol 0 .hash 60 (streaming station7 499880)).decoder 0).awaiting = some ⟨501500, some ⟨7, .fire, .alarm, 118, 3⟩⟩
      ∧ ((peerSymbol 0 .hash 60 (streaming (station7.drop 1) 499880)).line 0).garbled = 1
      ∧ (bench.decoder 0).stream = none
      ∧ ((peerSymbol 0 (.digit 2) 200 ((inState 0 .occupied 0 bench).setDecoder 0 fun d => { d with dEnded := some 499500 })).line 0).occupant
        = some .boiler := by decide +kernel

/-- A class named to a line: one that is not OCCUPIED, one that has it already, one that takes it before and after the preempt wait expiry. -/
theorem witness_Occupants :
    let wait (waited : Bool) := (inState 1 .occupied 499000 (headed [fireReport] bench)).setAccess (.wait 497000 498000 waited)
    setOccupant 0 .fire (wait true) = wait true ∧ ((setOccupant 1 .boiler (wait false)).line 1).occupant = some .boiler
      ∧ setOccupant 1 .boiler (setOccupant 1 .boiler (wait false)) = setOccupant 1 .boiler (wait false)
      ∧ (setOccupant 1 .boiler (wait false)).access.state = .wait 497000 498000 false
      ∧ ((setOccupant 1 .boiler (wait true)).line 1).state = .held
      ∧ ((setOccupant 1 .fire (wait true)).line 1).occupant = some .fire
      ∧ ((takeBlock 1 ⟨1234, 5, .boiler, .alarm, 118, 3⟩ (wait false)).decoder 1).awaiting = some ⟨501500, none⟩ := by decide +kernel

/-- A block of another account, of this station's own number, and of a peer; a full heard table gives up its oldest. -/
theorem witness_Block_heard :
    (takeBlock 0 ⟨1235, 7, .fire, .alarm, 118, 3⟩ bench).listener.heard = []
      ∧ (takeBlock 0 ⟨1234, 5, .fire, .alarm, 118, 3⟩ bench).listener.clashEnd = some 1100
      ∧ ((takeBlock 0 ⟨1234, 5, .fire, .alarm, 118, 3⟩ bench).cond .stationClash).active = true
      ∧ (takeBlock 0 ⟨1234, 7, .fire, .alarm, 118, 3⟩ bench).listener.heard = [⟨⟨7, .fire, .alarm, 118, 3⟩, 500, false, 0⟩]
      ∧ (takeBlock 0 ⟨1234, 7, .test, .status, 320, 0⟩ bench).listener.heard = [] := by decide +kernel

theorem witness_Block_heard_premise : bench.heardSound := bench_sound.2.2.1

/-- A block that is heard again on another line: the acknowledgement awaited for it on line 2 names nothing from then on. -/
theorem witness_Block_heard_again :
    let s := (hearing (heardAlarm 400) bench).setDecoder 1 fun d => { d with awaiting := some ⟨500500, some (heardAlarm 400).key⟩ }
    ((takeBlock 0 ⟨1234, 7, .fire, .alarm, 118, 3⟩ s).decoder 1).awaiting = some ⟨500500, none⟩
      ∧ ((takeBlock 0 ⟨1234, 7, .fire, .alarm, 119, 3⟩ s).decoder 1).awaiting = some ⟨500500, some (heardAlarm 400).key⟩ := by decide +kernel

/-- Section 6.6.1 at 95.2: seq 11 is COVERED by station 7; past its deadline, or naming nothing, an ACK covers nothing. Section
6.7.1: a RESTORE while channel 1 is in ALARM raises a re-assert. -/
theorem witness_Peer_acknowledgement_counts :
    let alarm : HeardEntry := ⟨⟨7, .fire, .alarm, 118, 3⟩, 494, false, 0⟩
    let restore : HeardEntry := ⟨⟨7, .fire, .restore, 118, 3⟩, 494, false, 0⟩
    let owing := holding [fireReport] bench
    let alarmed := bench.setChan 0 fun ch => { ch with state := .alarm }
    ((awaited 500000 (some alarm.key) (hearing alarm owing)).decoder 0).awaiting = some ⟨500000, some alarm.key⟩
      ∧ (peerAck 0 (awaited 500000 (some alarm.key) (hearing alarm owing))).queue.history.map (·.fate) = [.covered 7]
      ∧ (peerAck 0 (awaited 499999 (some alarm.key) (hearing alarm owing))).queue.history = []
      ∧ (peerAck 0 (awaited 500000 none (hearing alarm owing))).queue.history = []
      ∧ 3 ≠ 0 ∧ 3 ∈ bench.settings.shared
      ∧ (peerAck 0 (awaited 500000 (some restore.key) (hearing restore alarmed))).queue.reports.map (·.matter)
        = [⟨.fire, .reassert, 121, 3, .channel 0, none, 500⟩]
      ∧ (peerAck 0 (awaited 500000 (some restore.key) (hearing restore alarmed))).queue.reports.map (·.reassert) = [true] := by
  decide +kernel

/-- The premises on the heard table and the queue, with the entry that the acknowledgement names. -/
theorem witness_Peer_acknowledgement_premises :
    let alarm : HeardEntry := ⟨⟨7, .fire, .alarm, 118, 3⟩, 494, false, 0⟩
    let s := awaited 500000 (some alarm.key) (hearing alarm (holding [fireReport] bench))
    s.heardSound ∧ s.queueSound ∧ alarm ∈ s.listener.heard ∧ s.queue.overflowMark = false := by
  refine ⟨⟨by decide +kernel, by decide +kernel, by decide +kernel, by decide +kernel, ?_⟩, ?_, by decide +kernel, by decide +kernel⟩
  · intro l a k h hk
    revert h
    fin_cases l <;> intro h <;> cases h
    cases hk
    decide +kernel
  · unfold State.queueSound; decide +kernel

/-- A RESTORE that covers an own restore report and then raises the re-assert; and coverage that ends an overflow in force, whose end report
is handed before the re-assert. -/
theorem witness_Coverage_then_reassert :
    let restore : HeardEntry := ⟨⟨7, .fire, .restore, 118, 3⟩, 494, false, 0⟩
    let own := holding [queued 11 (matter .fire .restore 121 3 480)] (bench.setChan 0 fun ch => { ch with state := .alarm })
    let full : State := { own with queue := { own.queue with overflowMark := true } }
    let heard (s : State) := (peerAck 0 (awaited 500000 (some restore.key) (hearing restore s))).queue
    (heard own).history.map (·.fate) = [.covered 7]
      ∧ (heard own).reports.map (·.matter.qualifier) = [.reassert] ∧ (heard full).overflowMark = false
      ∧ ((heard (full.setCond .queueOverflow fun x => { x with active := true })).reports.map fun r => (r.seq, r.matter.event))
        = [(1, 121), (0, 361)] := by decide +kernel

/-- The clash at its end, an awaited acknowledgement at its deadline, and an entry one second past the coverage window. -/
theorem witness_Listener_deadlines :
    let clash : State := { bench with listener := { bench.listener with clashEnd := some 500 } }
    let old := hearing (heardAlarm 379) bench
    clash.running = true ∧ (after .clashEnd clash).listener.clashEnd = none
      ∧ ((after (.awaitingAckDeadline 0) (awaited 500000 none bench)).decoder 0).awaiting = none
      ∧ heardAlarm 379 ∈ old.listener.heard ∧ 379 + 120 < old.clock
      ∧ (after (.heardEntryExpiry (heardAlarm 379).key) old).listener.heard = []
      ∧ (after (.heardEntryExpiry (heardAlarm 380).key) (hearing (heardAlarm 380) bench)).listener.heard = [heardAlarm 380] := by
  decide +kernel

/-! ### The maintenance port -/

/-- The lines of the answer being sent. -/
def answerLines (s : State) : List String :=
  match s.port.answer with
  | some a => a.lines.map String.ofList
  | none => []

/-- The bench with an answer being sent until an instant, in 24ths of a millisecond. -/
def answering (ends : Nat) (restart : Bool) (waiting : List PortLine) : State :=
  { bench with port := ⟨waiting, ⟨[], false⟩, some ⟨["OK".toList], ends, restart⟩⟩ }

/-- With no answer in progress, in a start, and behind an answer; HIST and CHAN at and beyond the ends of their ranges. -/
theorem witness_Port_reads :
    bench.running = true ∧ bench.port.answer = none ∧ State.reset.running = false
      ∧ (answering (24 * 500000 + 1) false []).port.answer.isSome = true
      ∧ answerLines (after (.hist 0) bench) = ["ERR ARGUMENT"] ∧ answerLines (after (.hist 1) bench) = ["OK"]
      ∧ answerLines (after (.hist 64) bench) = ["OK"] ∧ answerLines (after (.hist 65) bench) = ["ERR ARGUMENT"]
      ∧ answerLines (after (.chan 9) bench) = ["ERR ARGUMENT"]
      ∧ ((after .status (answering (24 * 500000 + 1) false [])).port.waiting.map (·.chars)) = ["STATUS".toList]
      ∧ (after .ident State.reset).port = State.reset.port := by decide +kernel

/-- The commands that act, with and without what they ask for. -/
theorem witness_Port_acts :
    let active := tellTrouble .commFail false (tellTrouble .commFail true bench)
    let asked := holding [testReport1] bench
    let acquire := acquiring (.wait 497000 499000 false) bench
    let both := (headed [fireReport, testReport1] bench).setAccess (.wait 497000 499000 false)
    (active.cond .commFail).unacknowledged = true ∧ ((after .ack active).cond .commFail).unacknowledged = false
      ∧ (∃ r ∈ asked.queue.reports, r.matter.cls = .test ∧ r.matter.event = 321) ∧ answerLines (after .test asked) = ["ERR PENDING"]
      ∧ (after .test bench).queue.reports.map (·.matter) = [⟨.test, .status, 321, 0, .unit, none, 500⟩]
      ∧ bench.access.state = .idle ∧ bench.inCall = false ∧ answerLines (after .abort bench) = ["ERR NOCALL"]
      ∧ (calling .awaitAck id).inCall = true ∧ (after .abort (calling .awaitAck id)).call.state = .idle
      ∧ acquire.access.state ≠ .idle ∧ acquire.call.state = .idle ∧ acquire.queue.head.isSome = true
      ∧ (after .abort acquire).queue.reports.map (·.eligibleAt) = [505] ∧ (after .abort acquire).queue.head = none
      ∧ (after .abort both).queue.head = some 12 ∧ (after .abort both).access.state.t0 = some 500000 ∧ answerLines (after .restart bench) = ["OK"] := by
  decide +kernel

/-- The session of 9.4.1 and the example of 1.8.1: channel 2 bypassed, in ALARM meanwhile, and unbypassed. -/
theorem witness_Bypass_requests :
    let bypassed := bench.setChan 1 fun ch => { ch with state := .alarm, bypass := true }
    (bench.chan 1).state ≠ .disabled ∧ (bench.chan 1).bypass = false ∧ (bench.chan 7).state = .disabled
      ∧ answerLines (after (.bypass 8) bench) = ["ERR ARGUMENT"] ∧ answerLines (after (.unbypass 9) bench) = ["ERR ARGUMENT"]
      ∧ (after (.bypass 2) bench).queue.reports.map (·.matter) = [⟨.trouble, .alarm, 330, 2, .channel 1, none, 500⟩]
      ∧ (bypassed.chan 1).lastKind = .restore
      ∧ (after (.unbypass 2) bypassed).queue.reports.map (·.matter)
        = [⟨.fire, .alarm, 110, 1, .channel 1, none, 500⟩, ⟨.trouble, .restore, 330, 2, .channel 1, none, 500⟩]
      ∧ after (.bypass 2) bypassed = { bypassed with port := (after (.bypass 2) bypassed).port } := by decide +kernel

/-- The 64th character and the 65th, BS, CR with the answer idle and busy, and an answer at its end. -/
theorem witness_Characters_and_answers :
    let typed (n : Nat) : State := { bench with port := ⟨[], ⟨List.replicate n 'A', false⟩, none⟩ }
    (after (.characterReceived 126 false) (typed 63)).port.receiving.chars.length = 64
      ∧ (after (.characterReceived 32 false) (typed 64)).port.receiving = ⟨List.replicate 64 'A', true⟩
      ∧ (after (.characterReceived 8 false) (typed 64)).port.receiving.chars.length = 63
      ∧ after (.characterReceived 127 false) (typed 3) = typed 3 ∧ after (.characterReceived 65 true) (typed 3) = typed 3
      ∧ answerLines (after (.characterReceived 13 false) (typed 3)) = ["ERR UNKNOWN"]
      ∧ (after (.characterReceived 13 false) (answering (24 * 500000 + 1) false [])).port.waiting.length = 1
      ∧ (after .answerEnd (answering (24 * 500000) false [])).port.answer = none
      ∧ answerLines (after .answerEnd (answering (24 * 500000) false [⟨"FOO".toList, false⟩])) = ["ERR UNKNOWN"]
      ∧ (answering (24 * 500000) true []).supply = .up ∧ (answering (24 * 500000) true []).pinLow = false
      ∧ (after .answerEnd (answering (24 * 500000) true [])).phase = .reading 500000 := by decide +kernel

/-- Lines taken: too long, blank, unknown, with words too many and too few, in small letters; a command at the edge of the buffer and past
it; the second of two answers, which begins where the first ended. -/
theorem witness_Lines_taken :
    let typed (n : Nat) : State := { bench with port := ⟨[], ⟨List.replicate n 'A', false⟩, none⟩ }
    let take (t : String) := answerLines (takeLine ⟨t.toList, false⟩ bench)
    let ends (s : State) := s.port.answer.map (·.ends)
    answerLines (takeLine ⟨"ID".toList, true⟩ bench) = ["ERR OVERLONG"] ∧ takeLine ⟨"   ".toList, false⟩ bench = bench
      ∧ take "FOO 1" = ["ERR UNKNOWN"] ∧ take "IDENT 1" = ["ERR ARGUMENT"] ∧ take "HIST" = ["ERR ARGUMENT"]
      ∧ take "HIST 1A" = ["ERR ARGUMENT"] ∧ take " hist  01 " = ["OK"] ∧ take "ack" = ["OK"]
      ∧ answerLines (after .ack (typed 61)) = ["OK"] ∧ answerLines (after .ack (typed 62)) = ["ERR OVERLONG"]
      ∧ answerLines (after (.bypass 1) (typed 56)) = ["OK"] ∧ answerLines (after (.bypass 1) (typed 57)) = ["ERR OVERLONG"]
      ∧ ((after .ack { answering (24 * 500001) false [] with port :=
          { (answering (24 * 500001) false []).port with receiving := ⟨List.replicate 62 'A', false⟩ } }).port.waiting)
        = [⟨"AC".toList, true⟩]
      ∧ ends (after .ack bench) = some (24 * 500000 + 25 * 4)
      ∧ ends (after .answerEnd (answering (24 * 499999 + 4) false [⟨"  ".toList, false⟩, ⟨"ACK".toList, false⟩]))
        = some (24 * 499999 + 4 + 25 * 4) := by decide +kernel

/-- The start after RESTART abandons a call and opens its relay. -/
theorem test_restart_in_a_call :
    let s : State := { calling .awaitAck id with port := ⟨[], ⟨[], false⟩, some ⟨["OK".toList], 24 * 500000, true⟩⟩ }
    s.relayClosed 0 = true ∧ (after .answerEnd s).relayClosed 0 = false ∧ (after .answerEnd s).call.state = .idle
      ∧ (after .answerEnd s).startCause = .restart ∧ (after .answerEnd s).clock = 0 ∧ (after .answerEnd s).lineLamp 0 = .dark := by decide +kernel

/-! ### What every step keeps: states that meet the premises, and the next state -/

theorem witness_Steps_keep : bench.queueSound ∧ bench.callSound ∧ bench.heardSound ∧ bench.portSound ∧ bench.startSound
    ∧ step { bench with pending := [.status] } = .next (after .status bench) :=
  ⟨bench_sound.1, bench_sound.2.1, bench_sound.2.2.1, bench_sound.2.2.2, fun _ => ⟨rfl, rfl⟩, exec_after .status { bench with pending := [] } (by decide +kernel)⟩

/-- A call under way: its line HELD by the call engine, the others SETTLING. -/
theorem witness_Steps_keep_lines :
    (calling .awaitAck id).linesSound ∧ (calling .awaitAck id).holdersSound ∧ (calling .awaitAck id).callSound := by
  refine ⟨⟨?_, by decide +kernel, ?_, by decide +kernel⟩, ⟨?_, ?_, by decide +kernel, by decide +kernel⟩,
    ⟨by decide +kernel, by decide +kernel, by decide +kernel, by decide +kernel, ?_, by decide +kernel⟩⟩
  · unfold Line.sound; decide +kernel
  · intro p h; cases h
  · intro l
    constructor
    · intro h; revert h; fin_cases l <;> intro h <;> cases h
    · rintro ⟨st, w, h⟩; cases h
  · intro l st w h; cases h
  · intro p h; cases h

theorem witness_Steps_keep_counts : bench.bounded := by
  refine ⟨?_, ?_, by decide +kernel, by decide +kernel, by decide +kernel, ?_, by decide +kernel, by decide +kernel, ?_,
    by decide +kernel⟩
  · refine ⟨by decide, by decide, by decide, fun d => ?_, fun k d => ?_, fun k => ?_, by decide, by decide, by decide, by decide,
      by decide, by decide, by decide, ?_⟩
    · cases d <;> decide
    · cases k <;> cases d <;> decide
    · cases k <;> decide
    · unfold ChannelSettings.inRange; decide +kernel
  · unfold Channel.bounded; decide +kernel
  · intro t0 l rec h; cases h
  · intro c
    simp [State.cond, bench, State.reset, freshTrouble, freshCondition]

end Sys2Proof.Tests
end

section
/-! PROOFS. What an event does when it is due and when it is not. -/

namespace Sys2Proof.Machine

section
variable {s t : State} {b : Bool} {f : State → State}

/-- An event that is due has its effect. -/
theorem whenDue_true (h : b = true) : whenDue b f s = .next (f s) := by simp [whenDue, h]

/-- An event that is not due has none (log entry 7). -/
theorem whenDue_false (h : b = false) : whenDue b f s = .next s := by simp [whenDue, h]

end

/-- What holds of an event's effect, and where nothing changes, holds of the event. -/
theorem of_whenDue {R : State → State → Prop} {s t : State} {b : Bool} {f : State → State}
    (taken : whenDue b f s = .next t) (same : R s s) (effect : R s (f s)) : R s t := by
  obtain ⟨_, h⟩ | ⟨_, h⟩ := whenDue_cases s b f <;> cases h.symm.trans taken
  · exact effect
  · exact same

end Sys2Proof.Machine
end

section
/-! Relay and lamps (R22, R70, R146, R147). -/

namespace Sys2Proof.Machine

/-- Every place of the trouble list is some condition's. -/
theorem Condition.index_surjective : Function.Surjective Condition.index := by
  have places : ∀ i : Fin 28, allConditions[i.val]?.map Condition.index = some i := by decide
  intro i
  obtain ⟨c, -, hc⟩ := Option.map_eq_some_iff.1 (places i)
  exact ⟨c, hc⟩

theorem State.running_iff (s : State) : s.running = true ↔ s.phase = .running := by simp [State.running]

/-- Some record of the trouble list has a property just when some condition's record has it. -/
theorem State.any_trouble_iff (s : State) (p : ConditionRecord → Bool) :
    s.trouble.list.toList.any p = true ↔ ∃ c, p (s.cond c) = true := by
  rw [List.any_eq_true]
  constructor
  · rintro ⟨r, mem, hr⟩
    obtain ⟨i, hi, rfl⟩ := Vector.mem_iff_getElem.1 (Vector.mem_toList_iff.1 mem)
    obtain ⟨c, hc⟩ := Condition.index_surjective ⟨i, hi⟩
    exact ⟨c, by simpa [State.cond, hc] using hr⟩
  · rintro ⟨c, hc⟩
    exact ⟨s.cond c, Vector.mem_toList_iff.2 (Vector.getElem_mem _), hc⟩

theorem State.anyActive_iff (s : State) : s.anyActive = true ↔ ∃ c, (s.cond c).active = true := s.any_trouble_iff _

theorem State.anyUnacknowledged_iff (s : State) : s.anyUnacknowledged = true ↔ ∃ c, (s.cond c).unacknowledged = true :=
  s.any_trouble_iff _

theorem State.anyActive_eq_false_iff (s : State) : s.anyActive = false ↔ ∀ c, (s.cond c).active = false := by
  simp [← Bool.not_eq_true, s.anyActive_iff]

theorem State.anyUnacknowledged_eq_false_iff (s : State) :
    s.anyUnacknowledged = false ↔ ∀ c, (s.cond c).unacknowledged = false := by
  simp [← Bool.not_eq_true, s.anyUnacknowledged_iff]

/-- What the trouble lamp shows, by the start and the whole list (R147). -/
theorem State.troubleLamp_cases (s : State) :
    (s.phase ≠ .running ∧ s.troubleLamp = .dark) ∨
    (s.phase = .running ∧ s.anyActive = true ∧ s.troubleLamp = .steady) ∨
    (s.phase = .running ∧ s.anyActive = false ∧ s.anyUnacknowledged = true ∧ s.troubleLamp = .flashing 500) ∨
    (s.phase = .running ∧ s.anyActive = false ∧ s.anyUnacknowledged = false ∧ s.troubleLamp = .dark) := by
  unfold State.troubleLamp
  by_cases run : s.phase = .running <;> cases s.anyActive <;> cases s.anyUnacknowledged <;> simp [State.running, run]

/-- What a channel's lamp shows, by the start and the channel's state (R22). -/
theorem State.channelLamp_eq (s : State) (c : ChannelNo) :
    s.channelLamp c = if s.phase = .running then
      match (s.chan c).state with
      | .alarm => .steady
      | .fault => .flashing 500
      | _ => .dark
    else .dark := by
  unfold State.channelLamp State.running
  cases (s.chan c).state <;> simp

/-- What a line's lamp shows, by the start and the line's state (R70). -/
theorem State.lineLamp_eq (s : State) (l : LineNo) :
    s.lineLamp l = if s.phase = .running then
      match (s.line l).state with
      | .suspect | .faulted => .flashing 125
      | .held | .break => .steady
      | .occupied => .flashing 1000
      | _ => .dark
    else .dark := by
  unfold State.lineLamp State.running
  cases (s.line l).state <;> simp

end Sys2Proof.Machine

namespace Sys2Proof.Proofs
open Sys2Proof Sys2Proof.Machine

/-- The relay is energised with start complete and the list wholly clear (R146). -/
theorem troubleRelay_iff (s : State) : s.troubleRelay = true ↔
    s.phase = .running ∧ ∀ c : Condition, (s.cond c).active = false ∧ (s.cond c).unacknowledged = false := by
  simp [State.troubleRelay, State.running_iff, State.anyActive_eq_false_iff, State.anyUnacknowledged_eq_false_iff,
    forall_and, and_assoc]

/-- The trouble lamp is steady, flashing or dark as the list says (R147). -/
theorem troubleLamp_iff (s : State) :
    (s.troubleLamp = .steady ↔ s.phase = .running ∧ ∃ c, (s.cond c).active = true)
      ∧ (s.troubleLamp = .flashing 500 ↔
          s.phase = .running ∧ (∀ c, (s.cond c).active = false) ∧ ∃ c, (s.cond c).unacknowledged = true)
      ∧ (s.troubleLamp = .dark ↔
          s.phase ≠ .running ∨ ∀ c, (s.cond c).active = false ∧ (s.cond c).unacknowledged = false) := by
  rw [forall_and, ← s.anyActive_iff, ← s.anyUnacknowledged_iff, ← s.anyActive_eq_false_iff,
    ← s.anyUnacknowledged_eq_false_iff]
  obtain ⟨start, lamp⟩ | ⟨run, active, lamp⟩ | ⟨run, active, unack, lamp⟩ | ⟨run, active, unack, lamp⟩ :=
    s.troubleLamp_cases <;> simp_all

/-- A channel's lamp is steady, flashing or dark as its state says (R22). -/
theorem channelLamp_iff (s : State) (c : ChannelNo) :
    (s.channelLamp c = .steady ↔ s.phase = .running ∧ (s.chan c).state = .alarm)
      ∧ (s.channelLamp c = .flashing 500 ↔ s.phase = .running ∧ (s.chan c).state = .fault)
      ∧ (s.channelLamp c = .dark ↔
          s.phase ≠ .running ∨ (s.chan c).state ∈ [.disabled, .normal, .confirming, .restoring]) := by
  rw [s.channelLamp_eq]
  by_cases run : s.phase = .running
  · cases (s.chan c).state <;> simp [run]
  · simp [run]

/-- A line's lamp is steady, flashing or dark as its state says (R70). -/
theorem lineLamp_iff (s : State) (l : LineNo) :
    (s.lineLamp l = .flashing 125 ↔ s.phase = .running ∧ ((s.line l).state = .suspect ∨ (s.line l).state = .faulted))
      ∧ (s.lineLamp l = .steady ↔ s.phase = .running ∧ ((s.line l).state = .held ∨ (s.line l).state = .break))
      ∧ (s.lineLamp l = .flashing 1000 ↔ s.phase = .running ∧ (s.line l).state = .occupied)
      ∧ (s.lineLamp l = .dark ↔
          s.phase ≠ .running ∨ (s.line l).state ∈ [.unfitted, .settling, .idle, .guard]) := by
  rw [s.lineLamp_eq]
  by_cases run : s.phase = .running
  · cases (s.line l).state <;> simp [run]
  · simp [run]

/-- Settles O23: the relay from the whole list, and each lamp by a case split on the state it shows. -/
theorem relayAndLamps : Obligations.Relay_and_lamps := by
  refine ⟨troubleRelay_iff, fun s => ?_⟩
  obtain ⟨steady, flashing, dark⟩ := troubleLamp_iff s
  have channel := channelLamp_iff s
  have line := lineLamp_iff s
  simp only [forall_and] at channel line
  obtain ⟨alarm, fault, quiet⟩ := channel
  obtain ⟨broken, taken, busy, free⟩ := line
  exact ⟨steady, flashing, dark, alarm, fault, quiet, broken, taken, busy, free⟩

end Sys2Proof.Proofs
end


section
/-! Samples, changes of qualified band and expired timers of a channel (R1 to R15). -/

namespace Sys2Proof.Machine

section
variable {s : State} {c : ChannelNo} {b : Band}

theorem sampledChannel_of (run : s.running = true) (mode : (s.chanSettings c).mode ≠ .disabled) :
    sampledChannel c s = true := by simp [sampledChannel, run, mode]

/-- A band held for the debounce time becomes the qualified band, and the mode's rules act on the change (R2). -/
theorem exec_channelBandQualified (held : BandHeld c b s) :
    exec (.channelBandQualified c) s =
      .next (bandChange c (s.chan c).qualified (s.setChan c fun ch => { ch with qualified := b })) := by
  obtain ⟨run, mode, sampled, fresh, since⟩ := held
  have isDue : channelBandDue c s = true := by
    simp [channelBandDue, sampledChannel_of run mode, sampled, Ne.symm fresh, since]
  have taken : s.setChan c (fun ch => { ch with qualified := ch.sampled }) =
      s.setChan c fun ch => { ch with qualified := b } := s.setChan_congr c _ _ (by rw [sampled])
  calc exec (.channelBandQualified c) s
      = whenDue (channelBandDue c s) (qualifyChannel c) s := rfl
    _ = .next (qualifyChannel c s) := whenDue_true isDue
    _ = _ := by rw [qualifyChannel, taken]

/-- The end of a window takes its effect at the instant in the record (R11). -/
theorem exec_windowEnd {e : Nat} (run : s.running = true) (mode : (s.chanSettings c).mode ≠ .disabled)
    (ends : (s.chan c).windowEnd = some e) (past : e ≤ s.now) :
    exec (.windowEnd c) s = .next (endWindow c e s) := by
  have isDue : windowDue c s = true := by simp [windowDue, sampledChannel_of run mode, ends, reached, past]
  calc exec (.windowEnd c) s
      = whenDue (windowDue c s) (fun s => endWindow c ((s.chan c).windowEnd.getD s.now) s) s := rfl
    _ = .next (endWindow c e s) := by rw [whenDue_true isDue, ends]; rfl

end

/-- Only a voltage below 3 V is DEAD (section 3.2). -/
theorem OnhookBand.ofMillivolts_eq_dead_iff (v : Nat) : OnhookBand.ofMillivolts v = .dead ↔ v < 3000 := by
  unfold OnhookBand.ofMillivolts; split_ifs <;> simp_all

/-! ### CONTACT (R5 to R8) -/

section
variable (s : State) (c : ChannelNo) (b : Band)

/-- The alarm of a statement is the model's, taken with the band just qualified. -/
theorem inAlarm_eq : inAlarm c b s = contactAlarm c (s.setChan c fun ch => { ch with qualified := b }) := by
  simp [inAlarm, contactAlarm]

/-- The restore of a statement is the model's, taken with the band just qualified. -/
theorem restored_eq : restored c b s = contactRestore c (s.setChan c fun ch => { ch with qualified := b }) := by
  simp [restored, contactRestore, alarmDuration]

theorem inAlarm_of_qualified (h : (s.chan c).qualified = b) : inAlarm c b s = contactAlarm c s := by
  rw [inAlarm_eq, s.setChan_same c _ (by rw [← h])]

theorem restored_of_qualified (h : (s.chan c).qualified = b) : restored c b s = contactRestore c s := by
  rw [restored_eq, s.setChan_same c _ (by rw [← h])]

end

end Sys2Proof.Machine

namespace Sys2Proof.Proofs
open Sys2Proof Sys2Proof.Machine

/-- A channel's sample takes effect on a change of band, unless its mode is DISABLED (R1). -/
theorem channelSample_sorted (c : ChannelNo) (r : Nat) (s : State) (run : s.running = true) :
    exec (.channelSample c r) s = .next (
      if (s.chanSettings c).mode = .disabled ∨ (s.chan c).sampled = Band.ofResistance r then s
      else s.setChan c fun ch => { ch with sampled := Band.ofResistance r, bandSince := s.now }) := by
  change whenDue (sampledChannel c s) (sampleChannel c (Band.ofResistance r)) s = _
  by_cases mode : (s.chanSettings c).mode = .disabled
  · rw [whenDue_false (by simp [sampledChannel, mode]), if_pos (.inl mode)]
  · rw [whenDue_true (sampledChannel_of run mode)]
    simp [sampleChannel, mode]

/-- A line's voltage sample takes effect on a change of band with the relay open (R51). -/
theorem lineVoltageSample_sorted (l : LineNo) (v : Nat) (s : State) (run : s.running = true) :
    exec (.lineVoltageSample l v) s = .next (
      if (s.line l).state = .held ∨ (s.line l).state = .unfitted
          ∨ (s.line l).sampledOnhook = some (OnhookBand.ofMillivolts v) then s
      else s.setLine l fun ln =>
        { ln with
          sampledOnhook := some (OnhookBand.ofMillivolts v), onhookSince := s.now
          deadRunStart := if v < 3000 then some s.now else none }) := by
  change whenDue (sensesVoltage l s) (fun s => s.setLine l (Line.sampleOnhook s.now (OnhookBand.ofMillivolts v))) s = _
  by_cases off : (s.line l).state = .held ∨ (s.line l).state = .unfitted
  · rw [whenDue_false (by rcases off with h | h <;> simp [sensesVoltage, h]), if_pos (by tauto)]
  · obtain ⟨held, unfitted⟩ := not_or.1 off
    rw [whenDue_true (by simp [sensesVoltage, run, held, unfitted])]
    by_cases same : (s.line l).sampledOnhook = some (OnhookBand.ofMillivolts v)
    · rw [if_pos (.inr (.inr same)), s.setLine_same l _ (by simp [Line.sampleOnhook, same])]
    · rw [if_neg (by tauto)]
      exact congrArg _ (s.setLine_congr l _ _ (by
        simp [Line.sampleOnhook, same, OnhookBand.ofMillivolts_eq_dead_iff]))

/-- A line's current sample takes effect on a change of band in HELD (R52, R64, R65). -/
theorem loopCurrentSample_sorted (l : LineNo) (i : Nat) (s : State) (run : s.running = true) :
    exec (.loopCurrentSample l i) s = .next (
      if (s.line l).state ≠ .held ∨ (s.line l).sampledCurrent = some (CurrentBand.ofMicroamps i) then s
      else s.setLine l fun ln =>
        { ln with
          sampledCurrent := some (CurrentBand.ofMicroamps i), currentSince := s.now
          sharedFromSole := decide (ln.sampledCurrent = some .sole ∧ CurrentBand.ofMicroamps i = .shared)
          lossGiven := false }) := by
  change whenDue (sensesCurrent l s) (fun s => s.setLine l (Line.sampleCurrent s.now (CurrentBand.ofMicroamps i))) s = _
  by_cases held : (s.line l).state = .held
  · rw [whenDue_true (by simp [sensesCurrent, run, held])]
    by_cases same : (s.line l).sampledCurrent = some (CurrentBand.ofMicroamps i)
    · rw [if_pos (.inr same), s.setLine_same l _ (by simp [Line.sampleCurrent, same])]
    · rw [if_neg (by tauto)]
      exact congrArg _ (s.setLine_congr l _ _ (by simp [Line.sampleCurrent, same]))
  · rw [whenDue_false (by simp [sensesCurrent, held]), if_pos (.inl held)]

/-- Settles O11: one lemma for each kind of sample, whose bands are those of the model by definition. -/
theorem samplesAreSorted : Obligations.Samples_are_sorted :=
  ⟨channelSample_sorted, lineVoltageSample_sorted, loopCurrentSample_sorted⟩

/-- A CONTACT channel takes a change of qualified band as the table of section 1.3 says, with no exception (R5 to R8). -/
theorem contactChange_table (c : ChannelNo) (b : Band) (s : State) :
    let set := s.chanSettings c
    contactChange c (s.setChan c fun ch => { ch with qualified := b }) = (match (s.chan c).state, b with
      | .normal, .active =>
        if set.confirm = 0 then inAlarm c b s
        else s.setChan c fun ch =>
          { ch with qualified := b, state := .confirming, confirmTimer := .running (s.now + 1000 * set.confirm) }
      | .confirming, .normal => s.setChan c fun ch =>
          { ch with qualified := b, state := .normal, confirmTimer := .stopped, transients := min (ch.transients + 1) 255 }
      | .confirming, .active =>
        if (s.chan c).confirmTimer = .held then inAlarm c b s else s.setChan c fun ch => { ch with qualified := b }
      | .alarm, .normal =>
        if set.restore = 0 then restored c b s
        else s.setChan c fun ch =>
          { ch with qualified := b, state := .restoring, restoreTimer := .running (s.now + 1000 * set.restore) }
      | .restoring, .active => s.setChan c fun ch => { ch with qualified := b, state := .alarm, restoreTimer := .stopped }
      | .restoring, .normal =>
        if (s.chan c).restoreTimer = .held then restored c b s else s.setChan c fun ch => { ch with qualified := b }
      | _, _ => s.setChan c fun ch => { ch with qualified := b }) := by
  simp only [inAlarm_eq, restored_eq]
  cases st : (s.chan c).state <;> cases b <;>
    simp [contactChange, st, contactActive, abandonConfirm, contactNormal, saturatingSucc]

/-- A CONFIRMING channel's timer alarms with the band ACTIVE, and is held with another (R6, R8). -/
theorem confirmTimerExpiry_taken (c : ChannelNo) (ends : Nat) (s : State) (run : s.running = true)
    (mode : (s.chanSettings c).mode = .contact) (past : ends ≤ s.now) (st : (s.chan c).state = .confirming)
    (timer : (s.chan c).confirmTimer = .running ends) :
    exec (.confirmTimerExpiry c) s = .next (if (s.chan c).qualified = .active then inAlarm c .active s
      else s.setChan c fun ch => { ch with confirmTimer := .held }) := by
  have isDue : confirmDue c s = true := by
    simp [confirmDue, sampledChannel_of run (by simp [mode] : (s.chanSettings c).mode ≠ .disabled), st, timer,
      Timer.expired, past]
  calc exec (.confirmTimerExpiry c) s
      = .next (expireConfirm c s) := whenDue_true isDue
    _ = _ := by
      unfold expireConfirm
      split
      · rename_i active; rw [inAlarm_of_qualified s c .active active]
      · rfl

/-- A RESTORING channel's timer restores with the band NORMAL, and is held with another (R7, R8). -/
theorem restoreTimerExpiry_taken (c : ChannelNo) (ends : Nat) (s : State) (run : s.running = true)
    (mode : (s.chanSettings c).mode = .contact) (past : ends ≤ s.now) (st : (s.chan c).state = .restoring)
    (timer : (s.chan c).restoreTimer = .running ends) :
    exec (.restoreTimerExpiry c) s = .next (if (s.chan c).qualified = .normal then restored c .normal s
      else s.setChan c fun ch => { ch with restoreTimer := .held }) := by
  have isDue : restoreDue c s = true := by
    simp [restoreDue, sampledChannel_of run (by simp [mode] : (s.chanSettings c).mode ≠ .disabled), st, timer,
      Timer.expired, past]
  calc exec (.restoreTimerExpiry c) s
      = .next (expireRestore c s) := whenDue_true isDue
    _ = _ := by
      unfold expireRestore
      split
      · rename_i normal; rw [restored_of_qualified s c .normal normal]
      · rfl

/-- Settles O12: the table for a change of band, and the two timers. -/
theorem contactChannel : Obligations.Contact_channel := by
  refine ⟨fun c b s mode held => ?_, fun c ends s run mode past =>
    ⟨confirmTimerExpiry_taken c ends s run mode past, restoreTimerExpiry_taken c ends s run mode past⟩⟩
  rw [exec_channelBandQualified held]
  exact congrArg _ ((by simp [bandChange, mode] : _ = _).trans (contactChange_table c b s))

/-! ### Pulses (R9, R10, R14) -/

/-- The band a channel has just qualified does not open or shut its own gate, which is another channel's. -/
theorem gateOpen_setQualified (c : ChannelNo) (b : Band) (s : State)
    (other : ∀ g, (s.chanSettings c).gate = some g → g ≠ c) :
    gateOpen c (s.setChan c fun ch => { ch with qualified := b }) = gateIsOpen c s := by
  unfold gateOpen gateIsOpen
  by_cases flow : (s.chanSettings c).mode = .flow
  · cases gate : (s.chanSettings c).gate with
    | none => simp [flow, gate]
    | some g => simp [flow, gate, State.chan_setChan_ne _ _ _ _ (other g gate)]
  · simp [flow]

/-- A pulse counts where the gate is open, and brings a COUNT channel in NORMAL to its alarm at set-point-high (R9, R10, R14). -/
theorem pulse_setQualified (c : ChannelNo) (b : Band) (s : State)
    (other : ∀ g, (s.chanSettings c).gate = some g → g ≠ c) :
    let set := s.chanSettings c
    let n := min ((s.chan c).pulses + 1) 65535
    pulse c (s.setChan c fun ch => { ch with qualified := b }) =
      if gateIsOpen c s = true then
        if set.mode = .count ∧ (s.chan c).state = .normal ∧ n = set.setHigh then
          handChannel c .alarmValue (some set.setHigh) (s.setChan c fun ch =>
            { ch with qualified := b, state := .alarm, pulses := 0, windowEnd := some (s.now + 1000 * set.window) })
        else s.setChan c fun ch => { ch with qualified := b, pulses := n }
      else s.setChan c fun ch => { ch with qualified := b } := by
  intro set n
  have counted : (s.setChan c fun ch => { ch with qualified := b, pulses := min (ch.pulses + 1) 65535 }) =
      s.setChan c fun ch => { ch with qualified := b, pulses := n } := s.setChan_congr c _ _ rfl
  unfold pulse
  rw [gateOpen_setQualified c b s other]
  simp [saturatingSucc, counted, countAlarm, set, n]

/-- Settles O13: a change that is no pulse only sets the band, and a pulse is `pulse_setQualified`. -/
theorem pulsesCountedAndJudged : Obligations.Pulses_counted_and_judged := by
  intro c b s mode other held set ch0 n
  refine ⟨_, exec_channelBandQualified held, ?_⟩
  have change : bandChange c ch0.qualified (s.setChan c fun ch => { ch with qualified := b }) =
      if ch0.qualified = .normal ∧ b = .active ∧ (ch0.state = .normal ∨ ch0.state = .alarm) then
        pulse c (s.setChan c fun ch => { ch with qualified := b })
      else s.setChan c fun ch => { ch with qualified := b } := by
    rcases mode with mode | mode <;> simp [bandChange, mode, ch0]
  rw [change, pulse_setQualified c b s other]
  by_cases gate : gateIsOpen c s = true
  · simp only [gate, and_true, if_true]
    split_ifs <;> rfl
  · simp [gate]

end Sys2Proof.Proofs
end


section
/-! The ends of the windows of FLOW and COUNT channels (R11 to R13, R15). -/

namespace Sys2Proof.Machine

section
variable (s : State) (c : ChannelNo)

/-- The judgement of a FLOW channel in NORMAL (R12). -/
theorem flowNormal_eq (rate : Nat) :
    flowNormal c rate s =
      if rate < (s.chanSettings c).setHigh then s.setChan c fun ch => { ch with consecutive := 0 }
      else if (s.chan c).consecutive + 1 < (s.chanSettings c).windows then
        s.setChan c fun ch => { ch with consecutive := (s.chan c).consecutive + 1 }
      else handChannel c .alarmValue (some rate)
        (s.setChan c fun ch => { ch with state := .alarm, consecutive := 0, peak := rate }) := by
  unfold flowNormal
  by_cases low : rate < (s.chanSettings c).setHigh
  · rw [if_pos low, if_neg (Nat.not_le.2 low)]
  · have more : s.setChan c (fun ch => { ch with consecutive := ch.consecutive + 1 }) =
        s.setChan c fun ch => { ch with consecutive := (s.chan c).consecutive + 1 } := s.setChan_congr c _ _ rfl
    rw [if_neg low, if_pos (Nat.le_of_not_lt low), more]

/-- The judgement of a FLOW channel in ALARM (R13). -/
theorem flowAlarm_eq (rate : Nat) :
    flowAlarm c rate s =
      if (s.chanSettings c).setLow ≤ rate then
        s.setChan c fun ch => { ch with peak := max ch.peak rate, consecutive := 0 }
      else if (s.chan c).consecutive + 1 < (s.chanSettings c).windows then
        s.setChan c fun ch => { ch with peak := max ch.peak rate, consecutive := (s.chan c).consecutive + 1 }
      else
        let s1 := s.setChan c fun ch => { ch with peak := max ch.peak rate, state := .normal, consecutive := 0 }
        if (s.chanSettings c).restoreReporting then
          handChannel c .restoreValue (some (max (s.chan c).peak rate)) s1
        else s1 := by
  unfold flowAlarm
  by_cases low : rate < (s.chanSettings c).setLow
  · have more : s.setChan c (fun ch => { ch with peak := max ch.peak rate, consecutive := ch.consecutive + 1 }) =
        s.setChan c fun ch => { ch with peak := max ch.peak rate, consecutive := (s.chan c).consecutive + 1 } :=
      s.setChan_congr c _ _ rfl
    rw [if_pos low, if_neg (Nat.not_le.2 low)]
    simp [more]
  · simp [low, Nat.le_of_not_lt low]

/-- The end of a window: the record is taken, and what the mode and the state ask is judged on it (R11). -/
theorem endWindow_eq (e : Nat) :
    let u := s.setChan c fun ch =>
      { ch with hold := ch.pulses, pulses := 0, windowEnd := some (e + 1000 * (s.chanSettings c).window) }
    let rate := windowRate (s.chan c).pulses (s.chanSettings c).window
    endWindow c e s =
      if (s.chanSettings c).mode = .flow ∧ (s.chan c).state = .normal then flowNormal c rate u
      else if (s.chanSettings c).mode = .flow ∧ (s.chan c).state = .alarm then flowAlarm c rate u
      else if (s.chanSettings c).mode = .count ∧ (s.chan c).state = .alarm then countWindow c (s.chan c).pulses u
      else u := by
  intro u rate
  have taken : s.setChan c (fun ch =>
      { ch with hold := (s.chan c).pulses, pulses := 0, windowEnd := some (e + 1000 * (s.chanSettings c).window) }) = u :=
    s.setChan_congr c _ _ rfl
  unfold endWindow
  simp only [taken]
  cases (s.chanSettings c).mode <;> cases (s.chan c).state <;> rfl

end
end Sys2Proof.Machine

namespace Sys2Proof.Proofs
open Sys2Proof Sys2Proof.Machine

/-- Settles O14: the record taken at the end of a window, and then the judgement of each mode in each state. -/
theorem windowsEnd : Obligations.Windows_end := by
  constructor
  · intro c e s run mode ends past set ch0 rate more upd
    rw [exec_windowEnd run (by simp [mode]) ends past, endWindow_eq]
    cases st : (s.chan c).state <;>
      simp [mode, st, flowNormal_eq, flowAlarm_eq, windowRate, upd, rate, more, set, ch0]
  · intro c e s run mode ends past set ch0 upd
    rw [exec_windowEnd run (by simp [mode]) ends past, endWindow_eq]
    by_cases alarm : (s.chan c).state = .alarm
    · simp [mode, alarm, countWindow, upd, set, ch0]
    · simp [mode, alarm, upd, set, ch0]

end Sys2Proof.Proofs
end


section
/-! What the call engine and the report queue leave of the queue and of the trouble list when a report is handed. -/

namespace Sys2Proof.Machine

/-! ### The reports owed (R25, R39) -/

/-- Two states that owe the same reports: between them the head, a report's standing in the queue, the call, lines and the access
controller may differ, and of the queue and the trouble unit nothing else. -/
structure SameOwed (s t : State) : Prop where
  kept : Kept s t
  trouble : t.trouble = s.trouble
  owed : t.owed = s.owed
  history : t.queue.history = s.queue.history
  counter : t.queue.counter = s.queue.counter
  overflow : t.queue.overflow = s.queue.overflow
  overflowMark : t.queue.overflowMark = s.queue.overflowMark

section
variable {s t u : State}

theorem SameOwed.refl (s : State) : SameOwed s s := ⟨.refl s, rfl, rfl, rfl, rfl, rfl, rfl⟩

theorem SameOwed.trans (h : SameOwed s t) (k : SameOwed t u) : SameOwed s u :=
  ⟨h.kept.trans k.kept, k.trouble.trans h.trouble, k.owed.trans h.owed, k.history.trans h.history,
    k.counter.trans h.counter, k.overflow.trans h.overflow, k.overflowMark.trans h.overflowMark⟩

theorem HeadOnly.sameOwed (h : HeadOnly s t) : SameOwed s t :=
  ⟨h.kept, h.trouble, by simp [State.owed, h.reports], h.history, h.counter, h.overflow, h.overflowMark⟩

theorem Calm.sameOwed (h : Calm s t) : SameOwed s t := h.headOnly.sameOwed

end

/-- Folding an operation that leaves what is owed, over a list. -/
theorem SameOwed.foldl {α : Type} (f : State → α → State) (h : ∀ s a, SameOwed s (f s a)) :
    ∀ (l : List α) (s : State), SameOwed s (l.foldl f s)
  | [], s => .refl s
  | a :: l, s => (h s a).trans (SameOwed.foldl f h l (f s a))

section
variable (s : State)

theorem sameOwed_setCall (f : Call → Call) : SameOwed s (s.setCall f) := ⟨kept_setCall s f, rfl, rfl, rfl, rfl, rfl, rfl⟩

/-- A change of one report's standing, its number and matter apart. -/
theorem sameOwed_setReport (q : Nat) (f : Report → Report) (keeps : ∀ r, (f r).seq = r.seq ∧ (f r).matter = r.matter) :
    SameOwed s (s.setReport q f) where
  kept := kept_setReport s q f
  trouble := rfl
  owed := by
    simp only [State.owed, State.setReport_reports, List.map_map]
    refine List.map_congr_left fun r _ => ?_
    by_cases h : r.seq = q <;> simp [h, (keeps r).1, (keeps r).2]
  history := rfl
  counter := rfl
  overflow := rfl
  overflowMark := rfl

theorem sameOwed_decideHead : SameOwed s (decideHead s) := (headOnly_decideHead s).sameOwed

theorem sameOwed_returnUncharged (d c : Bool) (q : Nat) : SameOwed s (returnUncharged d c q s) := by
  refine (sameOwed_setReport s q _ ?_).trans (sameOwed_decideHead _)
  exact fun _ => ⟨rfl, rfl⟩

theorem sameOwed_returnsUncharged (d c : Bool) (l : List BatchEntry) :
    SameOwed s (l.foldl (fun t e => returnUncharged d c e.seq t) s) :=
  SameOwed.foldl (fun (t : State) (e : BatchEntry) => returnUncharged d c e.seq t)
    (fun t e => sameOwed_returnUncharged t d c e.seq) l s

theorem sameOwed_beginClosing : SameOwed s (beginClosing s) := by
  unfold beginClosing
  split
  · exact (sameOwed_setCall s _).trans (calm_releaseLine _ _ _ _).sameOwed
  · exact sameOwed_setCall s _

theorem sameOwed_leaveCall : SameOwed s (leaveCall s) := (sameOwed_setCall s _).trans (calm_startAcquisition _).sameOwed

theorem sameOwed_endUncharged (d c : Bool) : SameOwed s (endUncharged d c s) :=
  ((sameOwed_beginClosing s).trans (sameOwed_returnsUncharged _ d c _)).trans (sameOwed_leaveCall _)

theorem sameOwed_takeIntoCall (q : Nat) : SameOwed s (takeIntoCall q s) := sameOwed_setReport s _ _ fun _ => ⟨rfl, rfl⟩

theorem sameOwed_insertReport (q : Nat) : SameOwed s (insertReport q s) :=
  (((sameOwed_setCall s _).trans (sameOwed_takeIntoCall _ _)).trans (sameOwed_returnsUncharged _ _ _ _)).trans
    (sameOwed_decideHead _)

theorem sameOwed_appendReport (q : Nat) : SameOwed s (appendReport q s) :=
  ((sameOwed_setCall s _).trans (sameOwed_takeIntoCall _ _)).trans (sameOwed_decideHead _)

theorem sameOwed_suspendCall : SameOwed s (suspendCall s) := by
  unfold suspendCall
  split
  · exact sameOwed_setCall s _
  · exact sameOwed_endUncharged s _ _

theorem sameOwed_offerReport (r : Report) : SameOwed s (offerReport r s) := by
  obtain same | ⟨_, _, _, _, h⟩ | ⟨_, _, _, _, h⟩ | ⟨_, _, _, _, _, h⟩ := offerReport_cases s r
  · rw [same]; exact .refl s
  · rw [h]; exact sameOwed_insertReport s _
  · rw [h]; exact sameOwed_suspendCall s
  · rw [h]; exact sameOwed_appendReport s _

/-- A placed report stands in the queue, and nothing else of what is owed or of the trouble unit changes (R34). -/
theorem sameOwed_placeReport (r : Report) :
    SameOwed { s with queue := { s.queue with reports := insertInOrder r s.queue.reports } } (placeReport r s) :=
  (sameOwed_decideHead _).trans (sameOwed_offerReport _ _)

/-- The queue's reports after one is inserted are that one and those before it. -/
theorem mem_insertInOrder {r x : Report} : ∀ {l : List Report}, x ∈ insertInOrder r l ↔ x = r ∨ x ∈ l
  | [] => by simp [insertInOrder]
  | y :: rest => by
    unfold insertInOrder
    split
    · simp [mem_insertInOrder (l := rest), or_left_comm]
    · simp

/-- A report with a route and no covering word is placed where there is room (R34). -/
theorem enterReport_of_room (m : Matter) (route : s.settings.hasRoute m.cls = true) (word : consult m s = none)
    (room : s.queue.reports.length < 32) :
    enterReport m s = (placeReport (newReport s.queue.newSeq m s) (giveSeq s), .placed) := by
  obtain ⟨no, _⟩ | ⟨_, peer, covered, _⟩ | ⟨_, _, _, h⟩ | ⟨_, _, full, _⟩ | ⟨_, _, full, _⟩ := enterReport_cases s m
  · simp [route] at no
  · simp [word] at covered
  · exact h
  · omega
  · omega

/-- A report with a route and no covering word, handed where there is room, is one of the queue (R28, R34). -/
theorem handReport_mem (m : Matter) (route : s.settings.hasRoute m.cls = true) (word : consult m s = none)
    (room : s.queue.reports.length < 32) :
    ∃ r ∈ (handReport m s).queue.reports, r.seq = s.queue.newSeq ∧ r.matter = m := by
  have placed : handReport m s = placeReport (newReport s.queue.newSeq m s) (giveSeq s) := by
    simp [handReport, enterReport_of_room s m route word room]
  have owed : (s.queue.newSeq, m) ∈ (handReport m s).owed := by
    rw [placed, (sameOwed_placeReport _ _).owed]
    exact List.mem_map.2 ⟨newReport s.queue.newSeq m s, mem_insertInOrder.2 (.inl rfl), rfl⟩
  obtain ⟨r, mem, same⟩ := List.mem_map.1 owed
  exact ⟨r, mem, (Prod.mk.inj same).1, (Prod.mk.inj same).2⟩

/-! ### The trouble list -/

/-- The report queue itself does not touch the trouble unit: a refusal is only answered. -/
theorem trouble_enterReport (m : Matter) : (enterReport m s).1.trouble = s.trouble := by
  obtain ⟨_, h⟩ | ⟨_, _, _, h⟩ | ⟨_, _, _, h⟩ | ⟨_, _, _, _, _, h⟩ | ⟨_, _, _, _, h⟩ := enterReport_cases s m <;> rw [h]
  · rfl
  · rfl
  · exact (sameOwed_placeReport _ _).trouble
  · exact (sameOwed_placeReport _ _).trouble
  · rfl

theorem cond_enterReport (m : Matter) (d : Condition) : (enterReport m s).1.cond d = s.cond d := by
  simp [State.cond, trouble_enterReport]

/-- Handing a condition's report makes no condition active or inactive. -/
theorem active_handTrouble (c d : Condition) (m : Matter) :
    ((handTrouble c m s).1.cond d).active = (s.cond d).active := by
  rw [← cond_enterReport s m d]
  unfold handTrouble
  split
  · rename_i u _ e
    by_cases h : d = c
    · subst h
      calc ((makePending d m u).cond d).active
          = ((u.setCond d fun r => { r with pending := some ⟨m, u.clock, u.trouble.refusals⟩ }).cond d).active := rfl
        _ = _ := by simp [e]
    · calc ((makePending c m u).cond d).active
          = ((u.setCond c fun r => { r with pending := some ⟨m, u.clock, u.trouble.refusals⟩ }).cond d).active := rfl
        _ = _ := by rw [State.cond_setCond_ne _ _ _ _ h, e]
  · rename_i e; rw [e]

/-- A notice makes its own condition what it says, and no other (R138 to R140). -/
theorem active_noticeOnly (c d : Condition) (b : Bool) :
    ((noticeOnly c b s).1.cond d).active = if d = c then b else (s.cond d).active := by
  unfold noticeOnly
  split
  · rename_i same
    split
    · rename_i h; subst h; exact same
    · rfl
  · have changed : ((s.setCond c (·.change b s.clock)).cond d).active = if d = c then b else (s.cond d).active := by
      split
      · rename_i h; subst h; simp [ConditionRecord.change]
      · rename_i h; rw [State.cond_setCond_ne _ _ _ _ h]
    dsimp only
    split
    · rw [active_handTrouble, changed]
    · exact changed

/-- An overflow that begins makes no condition but QUEUE_OVERFLOW active (R36). -/
theorem active_overflowBegins (d : Condition) (b : Bool) (other : d ≠ .queueOverflow) :
    ((overflowBegins b s).cond d).active = (s.cond d).active := by
  unfold overflowBegins
  split
  · rw [active_noticeOnly, if_neg other]
  · rfl

/-- After a notice every condition but QUEUE_OVERFLOW is as before, and the notice's own as it says (R138 to R140). -/
theorem active_tellTrouble (c d : Condition) (b : Bool) (other : d ≠ .queueOverflow) :
    ((tellTrouble c b s).cond d).active = if d = c then b else (s.cond d).active := by
  rw [tellTrouble, active_overflowBegins _ _ _ other, active_noticeOnly]

end

end Sys2Proof.Machine

namespace Sys2Proof.Proofs
open Sys2Proof Sys2Proof.Machine

/-- Settles O16: nothing from a bypassed channel, and from another what `handReport` makes of the report on the record changed. -/
theorem channelHandsItsReport : Obligations.Channel_hands_its_report := by
  intro c q v s t set m
  refine ⟨fun bypassed => by simp [t, handChannel, bypassed], fun free => ?_⟩
  have handed : t = handReport m (s.setChan c fun ch => { ch with lastKind := q.kind }) := by
    simp [t, handChannel, free, m, set]
  rw [handed]
  refine ⟨?_, fun d other => ?_, handReport_mem (s.setChan c _) m⟩
  · rw [(kept_handReport _ _).chan, State.chan_setChan]
  · rw [(kept_handReport _ _).chan, State.chan_setChan_ne _ _ _ _ other]

end Sys2Proof.Proofs
end


section
/-! Wiring faults (R3, R16 to R18). -/

namespace Sys2Proof.Machine

section
variable (s : State) (c : ChannelNo)

/-- The alarm of a CONTACT channel does not ask what state it left (R5, R18). -/
theorem contactAlarm_setState (st : ChannelState) :
    contactAlarm c (s.setChan c fun ch => { ch with state := st }) = contactAlarm c s := by simp [contactAlarm]

/-- The restore of a CONTACT channel does not ask what state it left (R7, R18). -/
theorem contactRestore_setState (st : ChannelState) :
    contactRestore c (s.setChan c fun ch => { ch with state := st }) = contactRestore c s := by
  simp [contactRestore, alarmDuration]

/-- The table of R18: the state a channel takes on leaving FAULT, by its mode, its alarm memory and its exit band. -/
theorem exitState_table (memory : Bool) (b : Band) :
    let set := s.chanSettings c
    set.mode ≠ .disabled → (b = .normal ∨ b = .active) → (s.chan c).qualified = b →
    exitState c memory s = (match set.mode, memory, b with
      | .contact, true, .active => s.setChan c fun ch => { ch with state := .alarm }
      | .contact, true, _ =>
        if set.restore = 0 then restored c b s
        else s.setChan c fun ch =>
          { ch with state := .restoring, restoreTimer := .running (s.now + 1000 * set.restore) }
      | .contact, false, .active =>
        if set.confirm = 0 then inAlarm c b s
        else s.setChan c fun ch =>
          { ch with state := .confirming, confirmTimer := .running (s.now + 1000 * set.confirm) }
      | .contact, false, _ => s.setChan c fun ch => { ch with state := .normal }
      | _, memory, _ => s.setChan c fun ch =>
          { ch with state := if memory then .alarm else .normal, windowEnd := some (s.now + 1000 * set.window) }) := by
  intro set mode fit exitBand
  rw [inAlarm_of_qualified s c b exitBand, restored_of_qualified s c b exitBand]
  unfold exitState
  cases m : (s.chanSettings c).mode with
  | disabled => exact absurd m mode
  | contact =>
    rcases fit with rfl | rfl <;> cases memory <;>
      simp [set, m, exitBand, contactNormal, contactActive, contactAlarm_setState, contactRestore_setState]
  | flow => simp [set, m]
  | count => simp [set, m]

variable {s c}

/-- The wiring test's second is over on a watched channel (R3). -/
theorem heldOneSecond_of (run : s.running = true) (mode : (s.chanSettings c).mode ≠ .disabled)
    (since : (s.chan c).bandSince + 1000 ≤ s.now) : heldOneSecond c s = true := by
  simp [heldOneSecond, sampledChannel_of run mode, since]

theorem Band.isFault_iff (b : Band) : b.isFault = true ↔ b = .opened ∨ b = .short := by simp [Band.isFault]

/-- The two fault bands of a channel have different conditions, neither of them QUEUE_OVERFLOW. -/
theorem faultCondition_ne {old b : Band} (hb : b = .opened ∨ b = .short) (ho : old = .opened ∨ old = .short)
    (ne : old ≠ b) : faultCondition c old ≠ faultCondition c b := by
  rcases hb with rfl | rfl <;> rcases ho with rfl | rfl <;> simp_all [faultCondition]

theorem faultCondition_ne_queueOverflow (c : ChannelNo) (b : Band) : faultCondition c b ≠ .queueOverflow := by
  cases b <;> simp [faultCondition]

end

end Sys2Proof.Machine

namespace Sys2Proof.Proofs
open Sys2Proof Sys2Proof.Machine

section
variable (c : ChannelNo) (b : Band) (s : State)

/-- A fault entry (R16). -/
theorem wiringFaultEntry_taken (second : heldOneSecond c s = true) (bad : b = .opened ∨ b = .short)
    (sampled : (s.chan c).sampled = b) (out : (s.chan c).state ≠ .fault) (on : (s.chan c).state ≠ .disabled) :
    exec (.wiringFaultEntry c) s = .next (tellTrouble (faultCondition c b) true (s.setChan c fun ch =>
      { ch with
        state := .fault, faultBand := some b, alarmMemory := decide (ch.state = .alarm ∨ ch.state = .restoring)
        confirmTimer := .stopped, restoreTimer := .stopped, windowEnd := none, pulses := 0, consecutive := 0 })) := by
  have isDue : faultEntryDue c s = true := by
    simp [faultEntryDue, second, sampled, (Band.isFault_iff b).2 bad, out, on]
  calc exec (.wiringFaultEntry c) s
      = .next (faultEntry c s) := whenDue_true isDue
    _ = _ := by
      have entered : s.setChan c Channel.enterFault = s.setChan c fun ch =>
          { ch with
            state := .fault, faultBand := some b, alarmMemory := decide (ch.state = .alarm ∨ ch.state = .restoring)
            confirmTimer := .stopped, restoreTimer := .stopped, windowEnd := none, pulses := 0, consecutive := 0 } :=
        s.setChan_congr c _ _ (by simp [Channel.enterFault, sampled])
      rw [faultEntry, sampled, entered]
      rfl

/-- A fault band change tells the old band's end and then the new band's beginning, and keeps the rest of the channel (R17). -/
theorem wiringFaultBandChange_taken (second : heldOneSecond c s = true) (bad : b = .opened ∨ b = .short)
    (sampled : (s.chan c).sampled = b) (old : Band) (st : (s.chan c).state = .fault)
    (band : (s.chan c).faultBand = some old) (ne : old ≠ b) :
    let t := tellTrouble (faultCondition c b) true
      (tellTrouble (faultCondition c old) false (s.setChan c fun ch => { ch with faultBand := some b }))
    exec (.wiringFaultBandChange c) s = .next t ∧ t.chan c = { s.chan c with faultBand := some b }
      ∧ (old = .opened ∨ old = .short →
          (t.cond (faultCondition c old)).active = false ∧ (t.cond (faultCondition c b)).active = true) := by
  intro t
  have isDue : faultBandChangeDue c s = true := by
    simp [faultBandChangeDue, second, sampled, (Band.isFault_iff b).2 bad, st, band, ne]
  refine ⟨?_, ?_, fun badOld => ⟨?_, ?_⟩⟩
  · calc exec (.wiringFaultBandChange c) s
        = .next (faultBandChange c ((s.chan c).faultBand.getD .opened) s) := whenDue_true isDue
      _ = .next t := by rw [band, faultBandChange, sampled]; rfl
  · have kept := (kept_tellTrouble (s.setChan c fun ch => { ch with faultBand := some b }) (faultCondition c old) false).trans
      (kept_tellTrouble _ (faultCondition c b) true)
    rw [kept.chan, State.chan_setChan]
  · rw [active_tellTrouble _ _ _ _ (faultCondition_ne_queueOverflow c old), if_neg (faultCondition_ne bad badOld ne),
      active_tellTrouble _ _ _ _ (faultCondition_ne_queueOverflow c old), if_pos rfl]
  · rw [active_tellTrouble _ _ _ _ (faultCondition_ne_queueOverflow c b), if_pos rfl]

/-- A fault exit tells the end of the fault band, and the channel leaves FAULT on the band sampled (R18). -/
theorem wiringFaultExit_taken (second : heldOneSecond c s = true) (good : b = .normal ∨ b = .active)
    (sampled : (s.chan c).sampled = b) (old : Band) (st : (s.chan c).state = .fault)
    (band : (s.chan c).faultBand = some old) :
    exec (.wiringFaultExit c) s = .next (exitState c (s.chan c).alarmMemory
      (tellTrouble (faultCondition c old) false (s.setChan c fun ch =>
        { ch with faultBand := none, qualified := b, alarmMemory := false }))) := by
  have isDue : faultExitDue c s = true := by
    rcases good with rfl | rfl <;> simp [faultExitDue, second, sampled, Band.isFault, st, band]
  calc exec (.wiringFaultExit c) s
      = .next (faultExit c ((s.chan c).faultBand.getD .opened) s) := whenDue_true isDue
    _ = _ := by
      unfold faultExit
      rw [band, s.setChan_congr c (fun ch => { ch with faultBand := none, qualified := ch.sampled, alarmMemory := false })
        (fun ch => { ch with faultBand := none, qualified := b, alarmMemory := false }) (by rw [sampled])]
      rfl

end

/-- Settles O15: the three events of a wiring fault; an exit then takes the table of R18 on what the notice leaves. -/
theorem wiringFaults : Obligations.Wiring_faults := by
  constructor
  · intro c b s run mode bad sampled since
    have second := heldOneSecond_of run mode since
    exact ⟨wiringFaultEntry_taken c b s second bad sampled, wiringFaultBandChange_taken c b s second bad sampled⟩
  · intro c b old s run mode good sampled since st band set told
    rw [wiringFaultExit_taken c b s (heldOneSecond_of run mode since) good sampled old st band]
    have kept : Kept (s.setChan c _) told := kept_tellTrouble _ _ _
    have settings : told.chanSettings c = set := kept.chanSettings c
    have now : told.now = s.now := kept.now
    have exitBand : (told.chan c).qualified = b := by rw [kept.chan, State.chan_setChan]
    have table := exitState_table told c (s.chan c).alarmMemory b (by rw [settings]; exact mode) good exitBand
    rw [settings, now] at table
    exact congrArg _ table

end Sys2Proof.Proofs
end


section
/-! BYPASS and UNBYPASS at the port (R4, R20, R21, R163, R165). -/

namespace Sys2Proof.Machine

section
variable (s : State)

/-- A command whose line the buffer has room for acts at once while no answer is being sent (R161, R162). -/
theorem giveCommand_of_room (p : PortCommand) (act : State → State) (run : s.running = true) (free : s.port.answer = none)
    (room : s.port.held + (PortCommand.text p).length ≤ 64) : giveCommand p act s = act s := by
  obtain ⟨stopped, _⟩ | ⟨_, _, _, acts⟩ | ⟨_, _, long, _⟩ | ⟨_, busy, _⟩ := giveCommand_cases s p act
  · simp [run] at stopped
  · exact acts
  · omega
  · simp [free] at busy

/-- The line of a BYPASS is its name, a space and its number. -/
theorem bypass_text_length (n : Nat) :
    (PortCommand.text (.bypass n)).length = "BYPASS".length + 1 + (Nat.toDigits 10 n).length := List.length_append

/-- The line of an UNBYPASS is its name, a space and its number. -/
theorem unbypass_text_length (n : Nat) :
    (PortCommand.text (.unbypass n)).length = "UNBYPASS".length + 1 + (Nat.toDigits 10 n).length := List.length_append

/-- An answer of one line begins to be sent (R161, R163). -/
theorem sendAnswer_line (line : Text) :
    sendAnswer [line] false s =
      { s with port := { s.port with answer := some ⟨[line], 24 * s.now + 25 * (line.length + 2), false⟩ } } := by
  simp [sendAnswer, State.setPort, answerEnds, answerLength]

/-- A number from 1 to 8 names its channel, and no other names one. -/
theorem channelOf_number (c : ChannelNo) : channelOf (c.val + 1) = some c := by simp [channelOf]

theorem channelOf_eq_none {n : Nat} (h : n = 0 ∨ 8 < n) : channelOf n = none := by
  unfold channelOf
  split
  · rw [if_pos (by omega)]
  · rfl

/-- A request on a number that names no channel, or a DISABLED one, is ERR ARGUMENT (R4, R165). -/
theorem onChannel_error {n : Nat} (act : ChannelNo → State → State)
    (h : n = 0 ∨ 8 < n ∨ ∃ c : ChannelNo, n = c.val + 1 ∧ (s.chan c).state = .disabled) :
    onChannel n act s = answerError .argument s := by
  unfold onChannel
  rcases h with h | h | ⟨c, rfl, h⟩
  · rw [channelOf_eq_none (.inl h)]
  · rw [channelOf_eq_none (.inr h)]
  · simp [channelOf_number, h]

/-- A request on a channel that is not DISABLED acts on it, and is answered OK (R165). -/
theorem onChannel_ok (c : ChannelNo) (act : ChannelNo → State → State) (h : (s.chan c).state ≠ .disabled) :
    onChannel (c.val + 1) act s = answerOk [] (act c s) := by
  simp [onChannel, channelOf_number, h]

/-- The report a channel owes once it is no longer bypassed, by its state and its last queued kind (R21). -/
theorem catchUp_eq (c : ChannelNo) :
    catchUp c s =
      if (s.chan c).state = .alarm ∧ (s.chan c).lastKind = .restore then handChannel c .alarm none s
      else if (s.chan c).state = .normal ∧ (s.chan c).lastKind = .alarm
        ∧ (s.chanSettings c).restoreReporting = true then handChannel c .restore none s
      else s := by
  unfold catchUp
  cases (s.chan c).state <;> cases (s.chan c).lastKind <;> simp

/-- An UNBYPASS clears the setting, hands the end report, and then what the channel owes by the record of before (R21). -/
theorem unbypassChannel_eq (c : ChannelNo) (bypassed : (s.chan c).bypass = true) :
    let u := handReport (bypassReport c .restore s.clock) (s.setChan c fun ch => { ch with bypass := false })
    unbypassChannel c s =
      if (s.chan c).state = .alarm ∧ (s.chan c).lastKind = .restore then handChannel c .alarm none u
      else if (s.chan c).state = .normal ∧ (s.chan c).lastKind = .alarm
        ∧ (s.chanSettings c).restoreReporting = true then handChannel c .restore none u
      else u := by
  intro u
  have kept : Kept (s.setChan c fun ch => { ch with bypass := false }) u := kept_handReport _ _
  have record : u.chan c = { s.chan c with bypass := false } := by rw [kept.chan, State.chan_setChan]
  have settings : u.chanSettings c = s.chanSettings c := kept.chanSettings c
  rw [unbypassChannel, if_pos bypassed, catchUp_eq, record, settings]

end

end Sys2Proof.Machine

namespace Sys2Proof.Proofs
open Sys2Proof Sys2Proof.Machine

section
variable (n : Nat) (s : State)

/-- A BYPASS that the buffer has room for is taken at once. -/
theorem bypass_taken (run : s.running = true) (free : s.port.answer = none)
    (fits : s.port.held + "BYPASS".length + 1 + (Nat.toDigits 10 n).length ≤ 64) :
    exec (.bypass n) s = .next (onChannel n bypassChannel s) := by
  have room : s.port.held + (PortCommand.text (.bypass n)).length ≤ 64 := by
    rw [bypass_text_length, ← Nat.add_assoc, ← Nat.add_assoc]; exact fits
  exact congrArg _ (giveCommand_of_room s (.bypass n) (doBypass n) run free room)

/-- An UNBYPASS that the buffer has room for is taken at once. -/
theorem unbypass_taken (run : s.running = true) (free : s.port.answer = none)
    (fits : s.port.held + "UNBYPASS".length + 1 + (Nat.toDigits 10 n).length ≤ 64) :
    exec (.unbypass n) s = .next (onChannel n unbypassChannel s) := by
  have room : s.port.held + (PortCommand.text (.unbypass n)).length ≤ 64 := by
    rw [unbypass_text_length, ← Nat.add_assoc, ← Nat.add_assoc]; exact fits
  exact congrArg _ (giveCommand_of_room s (.unbypass n) (doUnbypass n) run free room)

end

/-- Settles O53: both commands are taken at once; the number decides between ERR ARGUMENT and OK, and the setting what is done. -/
theorem bypassRequests : Obligations.Bypass_requests := by
  intro n s run free answer report fits
  have argument : answerError .argument s = answer "ERR ARGUMENT" s := sendAnswer_line s "ERR ARGUMENT".toList
  have ok (u : State) : answerOk [] u = answer "OK" u := sendAnswer_line u "OK".toList
  refine ⟨fun wrong => ⟨fun room => ?_, fun room => ?_⟩, ?_⟩
  · rw [bypass_taken n s run free room, onChannel_error s _ wrong, argument]
  · rw [unbypass_taken n s run free room, onChannel_error s _ wrong, argument]
  · rintro c rfl on
    refine ⟨fun set room => ?_, fun set room => ?_, fun clear room => ?_, fun clear room => ?_⟩
    · rw [bypass_taken _ s run free room, onChannel_ok s c _ on, ok, bypassChannel, if_pos set]
    · rw [unbypass_taken _ s run free room, onChannel_ok s c _ on, ok, unbypassChannel_eq s c set]
      rfl
    · rw [unbypass_taken _ s run free room, onChannel_ok s c _ on, ok, unbypassChannel, if_neg (by simp [clear])]
    · rw [bypass_taken _ s run free room, onChannel_ok s c _ on, ok, bypassChannel, if_neg (by simp [clear])]
      rfl

end Sys2Proof.Proofs
end


section
/-! The end of the image read: with no line IDLE yet and no call, a head only brings the access controller into AC_WAIT, so that the
reports of a start change the queue and that one state (R30, R49, R72, R73; log entry 21). -/

namespace Sys2Proof.Machine

/-- The access context at the end of the image read, by the queue's head (R72, R73). -/
def awaitingHead (head : Option Nat) : Access := ⟨if head = none then .idle else .wait 0 0 false, 0⟩

/-- The state with another queue, the access controller in AC_IDLE or AC_WAIT for its head. -/
def withQueue (q : Queue) (s : State) : State := { s with queue := q, access := awaitingHead q.head }

/-- The part at the end of the image read: no call, no line to choose, and the access controller waiting for a line for the head. -/
structure JustStarted (s : State) : Prop where
  now : s.now = 0
  call : s.call = freshCall
  noIdle : ∀ l, (s.line l).state ≠ .idle
  access : s.access = awaitingHead s.queue.head

section
variable {s : State}

theorem JustStarted.withQueue (h : JustStarted s) (q : Queue) : JustStarted (withQueue q s) :=
  ⟨h.now, h.call, h.noIdle, rfl⟩

theorem JustStarted.setCond (h : JustStarted s) (c : Condition) (f : ConditionRecord → ConditionRecord) :
    JustStarted (s.setCond c f) := ⟨h.now, h.call, h.noIdle, h.access⟩

/-- A change of the queue that leaves the head leaves the access context. -/
theorem JustStarted.queue_eq (h : JustStarted s) (q : Queue) (head : q.head = s.queue.head) :
    { s with queue := q } = Machine.withQueue q s := by
  rw [Machine.withQueue, head, ← h.access]

theorem firstIdle_eq_none (k : ReportClass) (noIdle : ∀ l, (s.line l).state ≠ .idle) : firstIdle s k = none :=
  List.find?_eq_none.2 fun l _ => by simp [noIdle l]

/-- The first eligible report is one of the queue. -/
theorem report_of_firstEligible {q : Nat} (h : s.firstEligible = some q) : ∃ r, s.report q = some r := by
  obtain ⟨r, found, seq⟩ := Option.map_eq_some_iff.1 h
  refine Option.isSome_iff_exists.1 (List.find?_isSome.2 ⟨r, List.mem_of_find?_eq_some found, ?_⟩)
  simpa using seq

/-- With no line IDLE, choosing a line for a head leaves the acquisition in AC_WAIT (R74). -/
theorem chooseLine_wait {r : Report} (t0 : Nat) (head : s.headReport = some r) (noIdle : ∀ l, (s.line l).state ≠ .idle) :
    chooseLine t0 s = s.setAccess (.wait t0 s.now false) := by
  have await : awaitLine t0 s = s.setAccess (.wait t0 s.now false) := by
    simp [awaitLine, head, firstIdle_eq_none r.matter.cls noIdle]
  simp [chooseLine, await]

/-- With no line IDLE and no call, a change of head takes the access controller to AC_WAIT for a head and to AC_IDLE without one
(R73, R78). -/
theorem accessHeadChange_waiting {p : Option Nat} (now : s.now = 0) (call : s.call.state = .idle)
    (noIdle : ∀ l, (s.line l).state ≠ .idle) (access : s.access = awaitingHead p) :
    accessHeadChange s = { s with access := ⟨if s.headReport = none then .idle else .wait 0 0 false, 0⟩ } := by
  have cursor : s.access.cursor = 0 := by rw [access]; rfl
  unfold accessHeadChange
  cases head : s.headReport with
  | none =>
    cases p with
    | none =>
      have idle : s.access.state = .idle := by rw [access]; rfl
      simp [headLost, idle, ← cursor]
      rw [← idle]
    | some q =>
      have wait : s.access.state = .wait 0 0 false := by rw [access]; rfl
      simp [headLost, wait, State.setAccess, cursor]
  | some r =>
    cases p with
    | none =>
      have idle : s.access.state = .idle := by rw [access]; rfl
      simp [headReplaced, startAcquisition, idle, call, head, chooseLine_wait _ head noIdle, now, State.setAccess, cursor]
    | some q =>
      have wait : s.access.state = .wait 0 0 false := by rw [access]; rfl
      simp [headReplaced, wait, firstIdle_eq_none _ noIdle, laterPreemptionTest, ← cursor]
      rw [← wait]

/-- At the end of the image read a decision of the head takes the access controller to AC_WAIT or AC_IDLE with it (R30, R73). -/
theorem decideHead_justStarted (h : JustStarted s) :
    decideHead s = withQueue { s.queue with head := s.firstEligible } s := by
  have idle : s.call.state = .idle := by rw [h.call]; rfl
  by_cases same : s.firstEligible = s.queue.head
  · rw [decideHead, if_pos same, same]
    exact h.queue_eq s.queue rfl
  · have present : (s.firstEligible.bind s.report = none) ↔ s.firstEligible = none := by
      cases first : s.firstEligible with
      | none => simp
      | some q =>
        obtain ⟨r, hr⟩ := report_of_firstEligible first
        simp [hr]
    calc decideHead s
        = accessHeadChange { s with queue := { s.queue with head := s.firstEligible } } := by simp [decideHead, same, idle]
      _ = { s with
            queue := { s.queue with head := s.firstEligible }
            access := ⟨if s.firstEligible.bind s.report = none then .idle else .wait 0 0 false, 0⟩ } :=
          accessHeadChange_waiting (p := s.queue.head) h.now idle h.noIdle h.access
      _ = _ := by simp only [present]; rfl

/-- The reports of a start are placed with no call to be offered to (R34). -/
theorem placeReport_justStarted (h : JustStarted s) (r : Report) :
    ∃ head, placeReport r s =
      withQueue { s.queue with reports := insertInOrder r s.queue.reports, head := head } s := by
  have inserted : JustStarted { s with queue := { s.queue with reports := insertInOrder r s.queue.reports } } :=
    ⟨h.now, h.call, h.noIdle, h.access⟩
  have notOffered (q : Queue) : offerReport r (withQueue q s) = withQueue q s := by
    simp [offerReport, State.inCall, withQueue, h.call, freshCall]
  rw [placeReport, decideHead_justStarted inserted]
  exact ⟨_, notOffered _⟩

theorem length_insertInOrder (r : Report) : ∀ l : List Report, (insertInOrder r l).length = l.length + 1
  | [] => rfl
  | x :: rest => by
    unfold insertInOrder
    split
    · simp [length_insertInOrder r rest]
    · simp

/-- A report of a start changes the queue, with the access context that follows its head, and begins no overflow (R34, R49). -/
theorem enterReport_justStarted (h : JustStarted s) (m : Matter) (room : s.queue.reports.length < 32) :
    ∃ q res, enterReport m s = (withQueue q s, res) ∧ (∀ b, res ≠ .refused b)
      ∧ q.reports.length ≤ s.queue.reports.length + 1
      ∧ q.overflow = s.queue.overflow ∧ q.overflowMark = s.queue.overflowMark := by
  obtain ⟨_, e⟩ | ⟨_, peer, _, e⟩ | ⟨_, _, _, e⟩ | ⟨_, _, full, _⟩ | ⟨_, _, full, _⟩ := enterReport_cases s m
  · exact ⟨_, _, e.trans (congrArg (·, _) (h.queue_eq _ rfl)), by simp, by simp [giveSeq], rfl, rfl⟩
  · exact ⟨_, _, e.trans (congrArg (·, _) (h.queue_eq _ rfl)), by simp, by simp [giveSeq], rfl, rfl⟩
  · have given : JustStarted (giveSeq s) := ⟨h.now, h.call, h.noIdle, h.access⟩
    obtain ⟨head, placed⟩ := placeReport_justStarted given (newReport s.queue.newSeq m s)
    exact ⟨_, _, e.trans (congrArg (·, _) placed), by simp, (length_insertInOrder _ _).le, rfl, rfl⟩
  · omega
  · omega

/-- The START report changes only the queue and the access context. -/
theorem handReport_justStarted (h : JustStarted s) (m : Matter) (room : s.queue.reports.length < 32) :
    ∃ q, handReport m s = withQueue q s ∧ q.reports.length ≤ s.queue.reports.length + 1
      ∧ q.overflow = s.queue.overflow ∧ q.overflowMark = s.queue.overflowMark := by
  obtain ⟨q, res, e, placed, rest⟩ := enterReport_justStarted h m room
  refine ⟨q, ?_, rest⟩
  cases res <;> simp_all [handReport]

/-- A condition told in a start changes its record, and with a report the queue and the access context. -/
theorem tellTrouble_justStarted (h : JustStarted s) (c : Condition) (b : Bool) (room : s.queue.reports.length < 32) :
    ∃ q f, tellTrouble c b s = withQueue q (s.setCond c f)
      ∧ q.overflow = s.queue.overflow ∧ q.overflowMark = s.queue.overflowMark := by
  by_cases same : (s.cond c).active = b
  · refine ⟨s.queue, id, ?_, rfl, rfl⟩
    rw [tellTrouble_same s c b same, withQueue, ← h.access]
    simp [State.setCond, State.cond]
  · have changed := h.setCond c (·.change b s.clock)
    cases report : s.settings.troubleReporting with
    | false =>
      exact ⟨s.queue, _, (tellTrouble_silent s c b same report).trans (changed.queue_eq s.queue rfl), rfl, rfl⟩
    | true =>
      obtain ⟨q, res, e, placed, _, rest⟩ := enterReport_justStarted changed (c.report b s.clock) room
      refine ⟨q, (·.change b s.clock), ?_, rest⟩
      cases res <;> simp_all [tellTrouble, noticeOnly, handTrouble, overflowBegins]

end

section
variable (set : Settings) (loader : Loader) (s : State)

/-- Each block's record at the end of the image read is its value after a start (R24, R71, R150). -/
theorem afterRead_chan (c : ChannelNo) :
    (afterRead set loader s).chan c = freshChannel ((afterRead set loader s).chanSettings c) := by
  simp [afterRead, State.chan, State.chanSettings]

theorem afterRead_line (l : LineNo) : (afterRead set loader s).line l = freshLine (set.fitted.getLsbD l.val) := by
  simp [afterRead, State.line]

theorem afterRead_cond (c : Condition) : (afterRead set loader s).cond c = freshCondition := by
  simp [afterRead, State.cond, freshTrouble]

theorem afterRead_justStarted : JustStarted (afterRead set loader s) where
  now := rfl
  call := rfl
  noIdle l := by
    rw [afterRead_line]
    cases set.fitted.getLsbD l.val <;> simp [freshLine]
  access := rfl

/-- The end of the image read leaves every record as `afterRead` sets it, but the queue, the access context that follows the head, and
the record of CONFIG_DEFAULTED (R49, R150 to R153). -/
theorem endRead_eq (bytes : Option (List Byte)) :
    ∃ set loader q trouble, endRead bytes s = withQueue q { afterRead set loader s with trouble := trouble }
      ∧ trouble.testExpiry = (afterRead set loader s).trouble.testExpiry ∧ trouble.missedTests = 0
      ∧ (∀ c, c ≠ .configDefaulted →
          State.cond { afterRead set loader s with trouble := trouble } c = (afterRead set loader s).cond c)
      ∧ q.overflow = 0 ∧ q.overflowMark = false := by
  let u := afterRead (loadImage bytes).1 (loadImage bytes).2.1 s
  have started : JustStarted u := afterRead_justStarted _ _ s
  obtain ⟨p, handed, length, overflow, mark⟩ :=
    handReport_justStarted started (startReport s.startCause) (by decide : (0 : Nat) < 32)
  have first : endRead bytes s =
      if (loadImage bytes).2.2 then tellTrouble .configDefaulted true (withQueue p u) else withQueue p u := by
    rw [← handed]; rfl
  rw [first]
  split
  · have room : p.reports.length < 32 := lt_of_le_of_lt length (by decide : (0 : Nat) + 1 < 32)
    obtain ⟨q, f, told, overflow', mark'⟩ := tellTrouble_justStarted (started.withQueue p) .configDefaulted true room
    exact ⟨_, _, q, (u.setCond .configDefaulted f).trouble, told, rfl, rfl,
      fun c other => State.cond_setCond_ne u _ _ f other, overflow'.trans overflow, mark'.trans mark⟩
  · exact ⟨_, _, p, u.trouble, rfl, rfl, rfl, fun _ _ => rfl, overflow, mark⟩

end

/-- An image read that has ended, complete or not, has had the effect of its end. -/
theorem endRead_of_imageReadEnded {s t : State} (h : ImageReadEnded s t) : ∃ bytes, t = endRead bytes s := by
  obtain ⟨since, reading, ⟨image, length, inTime, taken⟩ | ⟨late, taken⟩⟩ := h
  · have isDue : imageReadEndDue image s = true := by simp [imageReadEndDue, reading, length, inTime]
    have effect : exec (.imageReadEnd image) s = .next (endRead (some image) s) := whenDue_true isDue
    exact ⟨some image, Host.Outcome.next.inj (taken.symm.trans effect)⟩
  · have isDue : imageReadTimeoutDue s = true := by simp [imageReadTimeoutDue, reading, late]
    have effect : exec .imageReadTimeout s = .next (endRead none s) := whenDue_true isDue
    exact ⟨none, Host.Outcome.next.inj (taken.symm.trans effect)⟩

end Sys2Proof.Machine

namespace Sys2Proof.Proofs
open Sys2Proof Sys2Proof.Machine

/-- Settles O8: the records are those of `afterRead`, which the reports of the start leave as they are. -/
theorem recordsAfterStart : Obligations.Records_after_start := by
  intro s t ended
  obtain ⟨bytes, rfl⟩ := endRead_of_imageReadEnded ended
  obtain ⟨set, loader, q, trouble, result, expiry, missed, conds, overflow, mark⟩ := endRead_eq s bytes
  rw [result]
  refine ⟨fun c => afterRead_chan set loader s c, fun l => ?_, rfl, rfl, rfl, rfl, rfl,
    fun c other => (conds c other).trans (afterRead_cond set loader s c), expiry, missed, overflow, mark, ?_⟩
  · have record : (withQueue q { afterRead set loader s with trouble := trouble }).line l =
        freshLine (set.fitted.getLsbD l.val) := afterRead_line set loader s l
    rw [record]
    exact ⟨rfl, rfl, rfl, rfl, rfl, rfl, rfl, rfl, rfl, rfl, rfl, rfl, rfl, rfl, rfl, rfl, rfl, rfl⟩
  · simp [State.clock, State.running, withQueue, afterRead]

end Sys2Proof.Proofs
end


section
/-! What the events of the queue, the access controller, the lines, the call and the receivers keep: one lemma for each effect, in the
terms of `Kept`. -/

namespace Sys2Proof.Machine

section
variable (s : State)

/-! ### The report queue's and the access controller's events -/

theorem kept_returnFromRest (q : Nat) : Kept s (returnFromRest q s) := (kept_setReport s _ _).trans (kept_decideHead _)

theorem kept_expireTestTimer : Kept s (expireTestTimer s) := by
  unfold expireTestTimer; split
  · exact kept_trouble s _
  · exact (kept_trouble s _).trans (kept_handReport _ _)

theorem kept_expirePreemptWait : Kept s (expirePreemptWait s) := by
  unfold expirePreemptWait; split
  · exact (kept_setAccess s _).trans (kept_preemptionTest _)
  · exact .refl s

theorem kept_repeatDemand : Kept s (repeatDemand s) := by
  unfold repeatDemand; split
  · exact kept_beginDemand _ _ _ _ _
  · exact .refl s

theorem kept_sendClassDigit : Kept s (sendClassDigit s) := by
  unfold sendClassDigit; split
  · exact (kept_requestTone s _ _ _).trans (kept_setAccess _ _)
  · exact .refl s

theorem kept_succeedPreempt : Kept s (succeedPreempt s) := by
  unfold succeedPreempt; split
  · exact (kept_releaseLine s _ _ _).trans (kept_setAccess _ _)
  · exact .refl s

theorem kept_failPreempt : Kept s (failPreempt s) := by
  unfold failPreempt; split
  · exact ((kept_releaseLine s _ _ _).trans (kept_raiseHeadContention _)).trans (kept_chooseLine _ _)
  · exact .refl s

theorem kept_passWithGrant (h : HeldReport) : Kept s (passWithGrant h s) := by
  unfold passWithGrant; split
  · exact kept_setAccess s _
  · exact .refl s

theorem kept_accessCurrentChange (b : CurrentBand) : Kept s (accessCurrentChange b s) := by
  unfold accessCurrentChange; split
  · split
    · exact kept_setAccess s _
    · exact .refl s
  · exact kept_passWithGrant s _
  · exact .refl s

theorem kept_accessIntrusion : Kept s (accessIntrusion s) := kept_passWithGrant s _

theorem kept_accessLoopLoss : Kept s (accessLoopLoss s) := by
  unfold accessLoopLoss; split
  · split
    · exact kept_releaseAndChoose _ _ _
    · exact .refl s
  · exact kept_passWithGrant s _
  · exact .refl s

/-! ### The lines' events -/

theorem kept_deadFault (l : LineNo) : Kept s (deadFault l s) := by
  unfold deadFault; split
  · exact (kept_setLine s _ _).trans (kept_tellTrouble _ _ _)
  · exact ((kept_setLine s _ _).trans (kept_accessLineNotice _ _)).trans (kept_tellTrouble _ _ _)

theorem kept_enterOnhook (l : LineNo) (b : OnhookBand) : Kept s (enterOnhook l b s) := by
  have entered := (kept_setLine s l (Line.enterOnhook s.now b)).trans (kept_accessLineNotice _ l)
  unfold enterOnhook; dsimp only; split
  · exact entered.trans (kept_deadFault _ _)
  · exact entered

theorem kept_endPeriod (l : LineNo) : Kept s (endPeriod l s) := by
  unfold endPeriod; split
  · exact kept_enterOnhook s _ _
  · exact kept_setLine s _ _

theorem kept_qualifyOnhook (l : LineNo) : Kept s (qualifyOnhook l s) := by
  unfold qualifyOnhook; dsimp only; split
  · split
    · exact (kept_setLine s _ _).trans (kept_enterOnhook _ _ _)
    · exact kept_setLine s _ _
  · exact kept_setLine s _ _

theorem kept_recoverLine (l : LineNo) : Kept s (recoverLine l s) := by
  unfold recoverLine; split
  · exact (kept_enterOnhook s _ _).trans (kept_tellTrouble _ _ _)
  · exact .refl s

theorem kept_foundShared (res : CheckResult) (l : LineNo) : Kept s (foundShared res l s) :=
  ((kept_setLine s _ _).trans (kept_dropToGuard _ _ _)).trans (kept_accessCheckResult _ _)

theorem kept_tellCurrent (l : LineNo) (b : CurrentBand) : Kept s (tellCurrent l b s) := by
  unfold tellCurrent; split
  · exact kept_accessCurrentChange s _
  · exact .refl s

theorem kept_qualifyCurrent (l : LineNo) : Kept s (qualifyCurrent l s) := by
  have qualified := kept_setLine s l
    fun ln => { ln with qualifiedCurrent := ln.sampledCurrent, qualifiedCurrentSince := s.now }
  unfold qualifyCurrent; dsimp only; split
  · split
    · split
      · exact qualified.trans (kept_foundShared _ _ _)
      · exact qualified
    · exact qualified.trans (kept_tellCurrent _ _ _)
  · exact qualified

theorem kept_checkedClear (l : LineNo) : Kept s (checkedClear l s) := by
  unfold checkedClear
  refine Kept.trans ?_ (kept_accessCheckResult _ _)
  split
  · exact (kept_setLine s _ _).trans (kept_tellTrouble _ _ _)
  · exact kept_setLine s _ _

theorem kept_checkedNoLoop (l : LineNo) : Kept s (checkedNoLoop l s) := by
  have opened := (kept_setLine s l fun ln =>
    { (ln.openRelay s.now .faulted none).receiverAnew s.now with faultCause := some .noLoop, noLoop := true }).trans
      (kept_silenceLine _ l)
  unfold checkedNoLoop
  refine Kept.trans ?_ (kept_accessCheckResult _ _)
  split
  · exact opened
  · exact opened.trans (kept_tellTrouble _ _ _)

theorem kept_endCheckWindow (l : LineNo) : Kept s (endCheckWindow l s) := by
  unfold endCheckWindow; split
  · exact kept_checkedClear s l
  · exact kept_checkedNoLoop s l
  · exact kept_foundShared s _ l
  · exact kept_foundShared s _ l

theorem kept_endBreak (l : LineNo) : Kept s (endBreak l s) := by
  unfold endBreak; dsimp only; split
  · split
    · exact (kept_reseizeLine s _).trans (kept_setAccess _ _)
    · exact kept_reseizeLine s _
  · exact kept_reseizeLine s _

theorem kept_tellHolder (l : LineNo) (access call : State → State) (ha : Kept s (access s)) (hc : Kept s (call s)) :
    Kept s (tellHolder l access call s) := by
  unfold tellHolder; split
  · exact ha
  · split
    · exact hc
    · exact .refl s
  · exact .refl s

/-! ### The call engine's events -/

theorem kept_pauseCall : Kept s (pauseCall s) := by
  unfold pauseCall; split <;> first | exact kept_setCall s _ | exact .refl s

theorem kept_callLoopLoss : Kept s (callLoopLoss s) := by
  unfold callLoopLoss; split
  · exact kept_endCall s _
  · exact .refl s

theorem kept_takeHeldReport (h : HeldReport) : Kept s (takeHeldReport h s) := by
  unfold takeHeldReport; split
  · exact .refl s
  · exact kept_pauseCall s
  · exact kept_callLoopLoss s

theorem kept_takeGrant (l : LineNo) (r : Report) (passed : List HeldReport) : Kept s (takeGrant l r passed s) := by
  have taken (f g : Call → Call) (seqs : List Nat) : Kept s (seqs.foldl (fun t q => takeIntoCall q t)
      (((handLineToCall l (s.setCall f)).setAccess .idle).setCall g)) :=
    ((((kept_setCall s f).trans (kept_setLine _ l _)).trans (kept_setAccess _ _)).trans (kept_setCall _ g)).trans
      (Kept.foldl (fun t q => takeIntoCall q t) (fun t q => kept_takeIntoCall t q) seqs _)
  unfold takeGrant
  refine Kept.trans ?_ (Kept.foldl (fun t h => takeHeldReport h t) (fun t h => kept_takeHeldReport t h) passed _)
  split
  · exact ((taken _ _ _).trans (kept_decideHead _)).trans (kept_startDialling _)
  · exact (taken _ _ _).trans (kept_decideHead _)

theorem kept_takeOffered : Kept s (takeOffered s) := by
  unfold takeOffered; split
  · split
    · exact kept_takeGrant s _ _ _
    · exact .refl s
  · exact .refl s

theorem kept_endDialGap : Kept s (endDialGap s) := by
  refine Kept.trans ?_ (kept_dialSymbol _)
  split
  · exact kept_setCall s _
  · exact .refl s

theorem kept_countAck : Kept s (countAck s) := by
  have acked := kept_setCall s (ackedCall s.now)
  unfold countAck; split
  · exact .refl s
  · dsimp only; split
    · exact (((acked.trans (kept_beginClosing _)).trans (kept_deliver _ _ _ _)).trans (kept_callSucceeded _)).trans
        (kept_leaveCall _)
    · split
      · exact (((acked.trans (kept_beginClosing _)).trans (kept_deliver _ _ _ _)).trans (kept_returnsUncharged _ _ _ _)).trans
          (kept_leaveCall _)
      · exact acked.trans (kept_deliver _ _ _ _)

theorem kept_resumeCall : Kept s (resumeCall s) := by
  unfold resumeCall; split
  · exact .refl s
  · rename_i p _
    have resumed := kept_setCall s fun c => { c with state := p.from_, pause := none }
    dsimp only; split
    · split
      · exact resumed.trans (kept_startDialling _)
      · exact resumed
    · exact resumed.trans (kept_dialSymbol _)
    · split
      · exact resumed.trans (kept_beginBlock _)
      · exact resumed
    · exact resumed.trans (kept_beginBlock _)
    · split
      · exact resumed.trans (kept_beginBlock _)
      · exact resumed
    all_goals exact resumed

theorem kept_answerDemand (c : ReportClass) : Kept s (answerDemand c s) := by
  unfold answerDemand; split
  · split
    · exact kept_endCall s _
    · exact kept_resumeCall s
  · exact kept_resumeCall s

theorem kept_endPause : Kept s (endPause s) := by
  unfold endPause; split
  · exact .refl s
  · split
    · exact kept_endCall s _
    · exact kept_resumeCall s

theorem kept_setPause (f : PauseRecord → PauseRecord) : Kept s (s.setPause f) := kept_setCall s _

theorem kept_pausedSymbol (y : Sym) (d : Nat) : Kept s (pausedSymbol y d s) := by
  unfold pausedSymbol; split
  · exact .refl s
  · split
    · exact kept_setPause s _
    · split
      · exact kept_answerDemand s _
      · exact kept_setPause s _

theorem kept_expireAck : Kept s (expireAck s) := by
  have expired := kept_setCall s fun c => { c with ackDeadline := none, ackExpired := some s.now }
  unfold expireAck; dsimp only; split_ifs
  · exact expired.trans (kept_setCall _ _)
  · exact expired.trans (kept_beginBlock _)
  · exact kept_endCall s _

/-! ### The receivers' reports to the call engine, and the end of a tone -/

theorem kept_callDial : Kept s (callDial s) := by
  unfold callDial; split
  · exact kept_startDialling s
  · split
    · exact (kept_setCall s _).trans (kept_setPause _ _)
    · exact .refl s
  · exact .refl s

theorem kept_callBusy : Kept s (callBusy s) := by
  unfold callBusy; split
  · exact kept_endCall s _
  · exact .refl s

theorem kept_callHandshake : Kept s (callHandshake s) := by
  unfold callHandshake; split
  · exact kept_setCall s _
  · exact .refl s

theorem kept_callHandshakeEnd : Kept s (callHandshakeEnd s) := by
  unfold callHandshakeEnd; split
  · exact kept_setCall s _
  · exact .refl s

theorem kept_callAck : Kept s (callAck s) := by
  unfold callAck; split
  · split
    · exact kept_countAck s
    · exact .refl s
  · split
    · exact kept_countAck s
    · exact .refl s
  · split
    · exact kept_countAck s
    · exact .refl s
  · exact .refl s

theorem kept_callAckEnd : Kept s (callAckEnd s) := by
  unfold callAckEnd; split
  · exact kept_setCall s _
  · exact .refl s

theorem kept_callSymbol (y : Sym) (d : Nat) : Kept s (callSymbol y d s) := by
  unfold callSymbol; split
  · exact kept_pausedSymbol s _ _
  · exact .refl s

theorem kept_noteHeard (l : LineNo) (f : Line → Line) : Kept s (noteHeard l f s) := kept_setLine s _ _

theorem kept_routeTone (l : LineNo) (call peer : State → State) (hc : Kept s (call s)) (hp : Kept s (peer s)) :
    Kept s (routeTone l call peer s) := by
  unfold routeTone; split
  · split
    · exact hc
    · exact .refl s
  · exact hp

theorem kept_finishTone (r : ToneRequest) : Kept s (finishTone r s) := by
  have resumed := kept_setLine s r.line (Line.resumeReceiver s.now)
  unfold finishTone; dsimp only; split
  · exact resumed.trans (kept_tone _ _)
  · exact (resumed.trans (kept_tone _ _)).trans (kept_startTone _ _)

theorem kept_accessToneDone (l : LineNo) (y : Sym) : Kept s (accessToneDone l y s) := by
  unfold accessToneDone; split
  · split
    · split
      · exact kept_setAccess s _
      · split
        · exact kept_setAccess s _
        · exact .refl s
    · exact .refl s
  · exact .refl s

theorem kept_callToneDone (l : LineNo) : Kept s (callToneDone l s) := by
  unfold callToneDone; split
  · split
    · exact kept_setCall s _
    · exact kept_setCall s _
    · exact .refl s
  · exact .refl s

theorem kept_endTone : Kept s (endTone s) := by
  unfold endTone; split
  · exact ((kept_finishTone s _).trans (kept_accessToneDone _ _ _)).trans (kept_callToneDone _ _)
  · exact .refl s

end

end Sys2Proof.Machine
end


section
/-! What the events of the peer listener, of a channel and of the port leave alone, besides what `Kept` names. -/

namespace Sys2Proof.Machine

/-- A report goes to the call engine, to no block, or to the peer listener (R67). -/
theorem routeTone_cases (l : LineNo) (call peer : State → State) (s : State) :
    routeTone l call peer s = call s ∨ routeTone l call peer s = s ∨ routeTone l call peer s = peer s := by
  unfold routeTone; split
  · split
    · exact .inl rfl
    · exact .inr (.inl rfl)
  · exact .inr (.inr rfl)

/-! ### One record given to both states -/

section
variable {s t : State} (h : Kept s t)
include h

theorem Kept.withChannels (x : Vector Channel 8) : Kept { s with channels := x } { t with channels := x } :=
  { h with channels := rfl }

theorem Kept.withListener (x : Listener) : Kept { s with listener := x } { t with listener := x } :=
  { h with heard := rfl, clashEnd := rfl, ackCount := rfl }

theorem Kept.withPort (x : Port) : Kept { s with port := x } { t with port := x } := { h with port := rfl }

end

/-! ### The peer listener -/

/-- Two states that differ only in what `Kept` leaves open and in the peer listener. -/
structure OnlyListener (s t : State) : Prop where
  kept : Kept { s with listener := t.listener } t

section
variable {s t u : State}

theorem Kept.onlyListener (h : Kept s t) : OnlyListener s t := ⟨h.withListener t.listener⟩

theorem OnlyListener.refl (s : State) : OnlyListener s s := (Kept.refl s).onlyListener

theorem OnlyListener.trans (h : OnlyListener s t) (k : OnlyListener t u) : OnlyListener s u :=
  ⟨(h.kept.withListener u.listener).trans k.kept⟩

theorem OnlyListener.then (h : OnlyListener s t) (k : Kept t u) : OnlyListener s u := h.trans k.onlyListener

theorem OnlyListener.channels (h : OnlyListener s t) : t.channels = s.channels := h.kept.channels
theorem OnlyListener.port (h : OnlyListener s t) : t.port = s.port := h.kept.port

end

section
variable (s : State)

theorem onlyListener_listener (x : Listener) : OnlyListener s { s with listener := x } := ⟨.refl _⟩

theorem onlyListener_setHeard (f : List HeardEntry → List HeardEntry) : OnlyListener s (s.setHeard f) := ⟨.refl _⟩

theorem kept_unnameAll (key : HeardKey) : Kept s (unnameAll key s) :=
  Kept.foldl (fun (t : State) (l : LineNo) => t.setDecoder l (·.unname key)) (fun t l => kept_setDecoder t l _) _ s

theorem onlyListener_forgetHeard (key : HeardKey) : OnlyListener s (forgetHeard key s) :=
  (onlyListener_setHeard s _).then (kept_unnameAll _ _)

theorem onlyListener_enterHeard (key : HeardKey) : OnlyListener s (enterHeard key s) := by
  unfold enterHeard
  refine OnlyListener.trans ?_ (onlyListener_setHeard _ _)
  split
  · exact onlyListener_forgetHeard s _
  · split
    · exact .refl s
    · split
      · exact onlyListener_forgetHeard s _
      · exact .refl s

theorem onlyListener_stationClash : OnlyListener s (stationClash s) := by
  unfold stationClash; dsimp only; split
  · exact onlyListener_listener s _
  · exact (onlyListener_listener s _).then (kept_tellTrouble _ _ _)

theorem kept_awaitAck (l : LineNo) (names : Option HeardKey) : Kept s (awaitAck l names s) := kept_setDecoder s _ _

theorem onlyListener_takeBlock (l : LineNo) (b : HeardBlock) : OnlyListener s (takeBlock l b s) := by
  have named := kept_setOccupant s l b.cls
  unfold takeBlock; dsimp only; split
  · exact (named.trans (kept_awaitAck _ _ _)).onlyListener
  · split
    · exact (named.trans (kept_awaitAck _ _ _)).onlyListener.trans (onlyListener_stationClash _)
    · split
      · exact (named.onlyListener.trans (onlyListener_enterHeard _ _)).then (kept_awaitAck _ _ _)
      · exact (named.trans (kept_awaitAck _ _ _)).onlyListener

theorem kept_setDEnded (l : LineNo) (e : Option Nat) : Kept s (setDEnded l e s) := kept_setDecoder s _ _
theorem kept_setStream (l : LineNo) (st : Option Stream) : Kept s (setStream l st s) := kept_setDecoder s _ _

theorem kept_peerSymbolAlone (l : LineNo) (y : Sym) (d : Nat) : Kept s (peerSymbolAlone l y d s) := by
  unfold peerSymbolAlone; split
  · exact (kept_setStream s _ _).trans (kept_setDEnded _ _ _)
  · split
    · exact kept_setDEnded s _ _
    · split
      · exact (kept_setDEnded s _ _).trans (kept_setOccupant _ _ _)
      · exact kept_setDEnded s _ _

theorem onlyListener_endStream (l : LineNo) (st : Stream) : OnlyListener s (endStream l st s) := by
  unfold endStream; split
  · exact (kept_setStream s _ _).onlyListener.trans (onlyListener_takeBlock _ _ _)
  · exact (kept_discardStream s _).onlyListener

theorem onlyListener_peerSymbol (l : LineNo) (y : Sym) (d : Nat) : OnlyListener s (peerSymbol l y d s) := by
  have alone := (kept_discardStream s l).trans (kept_peerSymbolAlone _ l y d)
  unfold peerSymbol; split
  · exact (kept_peerSymbolAlone s _ _ _).onlyListener
  · split
    · exact alone.onlyListener
    · split
      · exact onlyListener_endStream s _ _
      · split
        · exact (kept_setStream s _ _).onlyListener
        · exact alone.onlyListener

theorem onlyListener_reportSymbol (l : LineNo) (y : Sym) (d : Nat) : OnlyListener s (reportSymbol l y d s) := by
  have noted := (kept_noteHeard s l id).onlyListener
  unfold reportSymbol
  obtain h | h | h := routeTone_cases l (callSymbol y d) (peerSymbol l y d) (noteHeard l id s) <;> rw [h]
  · exact noted.then (kept_callSymbol _ _ _)
  · exact noted
  · exact noted.trans (onlyListener_peerSymbol _ _ _ _)

end

/-! ### An acknowledgement, which may raise a re-assert (R19, R130, R135) -/

/-- Two states that differ only in what `Kept` leaves open, in the peer listener, and in the last queued kinds of channels. -/
structure OnlyListenerAndKinds (s t : State) : Prop where
  kept : Kept { s with channels := t.channels, listener := t.listener } t
  kinds : ∀ d, { t.chan d with lastKind := (s.chan d).lastKind } = s.chan d

section
variable {s t u : State}

theorem OnlyListener.andKinds (h : OnlyListener s t) : OnlyListenerAndKinds s t where
  kept := h.kept.withChannels t.channels
  kinds d := by simp [State.chan, h.channels]

theorem Kept.andKinds (h : Kept s t) : OnlyListenerAndKinds s t := h.onlyListener.andKinds

theorem OnlyListenerAndKinds.refl (s : State) : OnlyListenerAndKinds s s := (Kept.refl s).andKinds

theorem OnlyListenerAndKinds.trans (h : OnlyListenerAndKinds s t) (k : OnlyListenerAndKinds t u) :
    OnlyListenerAndKinds s u where
  kept := ((h.kept.withListener u.listener).withChannels u.channels).trans k.kept
  kinds d := by
    calc { u.chan d with lastKind := (s.chan d).lastKind }
        = { ({ u.chan d with lastKind := (t.chan d).lastKind } : Channel) with lastKind := (s.chan d).lastKind } := rfl
      _ = s.chan d := by rw [k.kinds d, h.kinds d]

end

section
variable (s : State)

theorem andKinds_setLastKind (c : ChannelNo) (k : Kind) :
    OnlyListenerAndKinds s (s.setChan c fun ch => { ch with lastKind := k }) where
  kept := .refl _
  kinds d := by
    by_cases h : d = c
    · subst h; rw [State.chan_setChan]
    · rw [State.chan_setChan_ne _ _ _ _ h]

theorem andKinds_reassert (c : ChannelNo) : OnlyListenerAndKinds s (reassert c s) :=
  (andKinds_setLastKind s c _).trans (kept_handReport _ _).andKinds

theorem andKinds_contradict (e : HeardEntry) : OnlyListenerAndKinds s (contradict e s) := by
  unfold contradict; split
  · split
    · exact .refl s
    · split
      · exact .refl s
      · exact andKinds_reassert s _
  · exact .refl s

theorem andKinds_actOnAcknowledged (e : HeardEntry) : OnlyListenerAndKinds s (actOnAcknowledged e s) := by
  unfold actOnAcknowledged; split
  · exact (Kept.foldl (fun (t : State) (r : Report) => coverReport e.key.station r.seq t)
      (fun t r => kept_coverReport t _ _) _ s).andKinds.trans (andKinds_contradict _ _)
  · exact .refl s

theorem andKinds_acknowledgeHeard (key : HeardKey) : OnlyListenerAndKinds s (acknowledgeHeard key s) := by
  have counted (f : List HeardEntry → List HeardEntry) (n : Nat) :
      OnlyListener s { s.setHeard f with listener := { (s.setHeard f).listener with ackCount := n } } :=
    (onlyListener_setHeard s f).trans (onlyListener_listener _ _)
  unfold acknowledgeHeard; dsimp only; split
  · exact (counted _ _).andKinds.trans (andKinds_actOnAcknowledged _ _)
  · exact (counted _ _).andKinds

theorem andKinds_peerAck (l : LineNo) : OnlyListenerAndKinds s (peerAck l s) := by
  unfold peerAck; split
  · exact .refl s
  · split
    · dsimp only; split
      · exact (kept_setDecoder s _ _).andKinds.trans (andKinds_acknowledgeHeard _ _)
      · exact (kept_setDecoder s _ _).andKinds
    · exact .refl s

end

/-! ### One channel -/

/-- Two states that differ only in what `Kept` leaves open and in one channel's record. -/
structure OnlyChannel (c : ChannelNo) (s t : State) : Prop where
  kept : Kept { s with channels := t.channels } t
  others : ∀ d, d ≠ c → t.chan d = s.chan d

section
variable {s t u : State} {c : ChannelNo}

theorem Kept.onlyChannel (h : Kept s t) : OnlyChannel c s t where
  kept := h.withChannels t.channels
  others d _ := h.chan d

theorem OnlyChannel.refl (s : State) : OnlyChannel c s s := (Kept.refl s).onlyChannel

theorem OnlyChannel.trans (h : OnlyChannel c s t) (k : OnlyChannel c t u) : OnlyChannel c s u where
  kept := (h.kept.withChannels u.channels).trans k.kept
  others d ne := (k.others d ne).trans (h.others d ne)

theorem OnlyChannel.then (h : OnlyChannel c s t) (k : Kept t u) : OnlyChannel c s u := h.trans k.onlyChannel

end

section
variable (s : State) (c : ChannelNo)

theorem onlyChannel_setChan (f : Channel → Channel) : OnlyChannel c s (s.setChan c f) where
  kept := .refl _
  others _ ne := State.chan_setChan_ne _ _ _ _ ne

theorem onlyChannel_handChannel (q : Qualifier) (v : Option Nat) : OnlyChannel c s (handChannel c q v s) := by
  unfold handChannel; split
  · exact .refl s
  · exact (onlyChannel_setChan s c _).then (kept_handReport _ _)

theorem onlyChannel_contactAlarm : OnlyChannel c s (contactAlarm c s) :=
  (onlyChannel_setChan s c _).trans (onlyChannel_handChannel _ _ _ _)

theorem onlyChannel_contactActive : OnlyChannel c s (contactActive c s) := by
  unfold contactActive; dsimp only; split
  · exact onlyChannel_contactAlarm s c
  · exact onlyChannel_setChan s c _

theorem onlyChannel_contactRestore : OnlyChannel c s (contactRestore c s) := by
  unfold contactRestore; dsimp only; split
  · exact (onlyChannel_setChan s c _).trans (onlyChannel_handChannel _ _ _ _)
  · exact onlyChannel_setChan s c _

theorem onlyChannel_contactNormal : OnlyChannel c s (contactNormal c s) := by
  unfold contactNormal; dsimp only; split
  · exact onlyChannel_contactRestore s c
  · exact onlyChannel_setChan s c _

theorem onlyChannel_contactChange : OnlyChannel c s (contactChange c s) := by
  unfold contactChange; dsimp only; split
  · exact onlyChannel_contactActive s c
  · exact onlyChannel_setChan s c _
  · split
    · exact onlyChannel_contactAlarm s c
    · exact .refl s
  · exact onlyChannel_contactNormal s c
  · exact onlyChannel_setChan s c _
  · split
    · exact onlyChannel_contactRestore s c
    · exact .refl s
  · exact .refl s

theorem onlyChannel_pulse : OnlyChannel c s (pulse c s) := by
  unfold pulse; dsimp only; split
  · split
    · exact ((onlyChannel_setChan s c _).trans (onlyChannel_setChan _ c _)).trans (onlyChannel_handChannel _ _ _ _)
    · exact onlyChannel_setChan s c _
  · exact .refl s

theorem onlyChannel_bandChange (old : Band) : OnlyChannel c s (bandChange c old s) := by
  unfold bandChange; dsimp only; split
  · exact .refl s
  · exact onlyChannel_contactChange s c
  all_goals
    split
    · exact onlyChannel_pulse s c
    · exact .refl s

theorem onlyChannel_flowNormal (rate : Nat) : OnlyChannel c s (flowNormal c rate s) := by
  unfold flowNormal; dsimp only; split
  · split
    · exact onlyChannel_setChan s c _
    · exact (onlyChannel_setChan s c _).trans (onlyChannel_handChannel _ _ _ _)
  · exact onlyChannel_setChan s c _

theorem onlyChannel_flowAlarm (rate : Nat) : OnlyChannel c s (flowAlarm c rate s) := by
  rw [flowAlarm_eq]
  dsimp only; split
  · exact onlyChannel_setChan s c _
  · split
    · exact onlyChannel_setChan s c _
    · split
      · exact (onlyChannel_setChan s c _).trans (onlyChannel_handChannel _ _ _ _)
      · exact onlyChannel_setChan s c _

theorem onlyChannel_countWindow (hold : Nat) : OnlyChannel c s (countWindow c hold s) := by
  unfold countWindow; dsimp only; split
  · split
    · exact (onlyChannel_setChan s c _).trans (onlyChannel_handChannel _ _ _ _)
    · exact onlyChannel_setChan s c _
  · exact .refl s

theorem onlyChannel_endWindow (e : Nat) : OnlyChannel c s (endWindow c e s) := by
  rw [endWindow_eq]
  split
  · exact (onlyChannel_setChan s c _).trans (onlyChannel_flowNormal _ _ _)
  · split
    · exact (onlyChannel_setChan s c _).trans (onlyChannel_flowAlarm _ _ _)
    · split
      · exact (onlyChannel_setChan s c _).trans (onlyChannel_countWindow _ _ _)
      · exact onlyChannel_setChan s c _

theorem onlyChannel_exitState (memory : Bool) : OnlyChannel c s (exitState c memory s) := by
  unfold exitState; dsimp only; split
  · exact .refl s
  · split
    · exact onlyChannel_setChan s c _
    · exact (onlyChannel_setChan s c _).trans (onlyChannel_contactNormal _ _)
    · exact (onlyChannel_setChan s c _).trans (onlyChannel_contactActive _ _)
    · exact onlyChannel_setChan s c _
  all_goals exact onlyChannel_setChan s c _

theorem onlyChannel_faultExit (old : Band) : OnlyChannel c s (faultExit c old s) :=
  ((onlyChannel_setChan s c _).then (kept_tellTrouble _ _ _)).trans (onlyChannel_exitState _ _ _)

theorem onlyChannel_catchUp : OnlyChannel c s (catchUp c s) := by
  rw [catchUp_eq]; split
  · exact onlyChannel_handChannel s c _ _
  · split
    · exact onlyChannel_handChannel s c _ _
    · exact .refl s

theorem onlyChannel_bypassChannel : OnlyChannel c s (bypassChannel c s) := by
  unfold bypassChannel; split
  · exact .refl s
  · exact (onlyChannel_setChan s c _).then (kept_handReport _ _)

theorem onlyChannel_unbypassChannel : OnlyChannel c s (unbypassChannel c s) := by
  unfold unbypassChannel; split
  · exact ((onlyChannel_setChan s c _).then (kept_handReport _ _)).trans (onlyChannel_catchUp _ _)
  · exact .refl s

/-- An event of a channel touches that channel's record and no other (R1 to R18). -/
theorem onlyChannel_exec {i : Instr} {t : State} (event : channelEvent i = some c) (taken : exec i s = .next t) :
    OnlyChannel c s t := by
  cases i <;> cases event
  case channelBandQualified =>
    refine of_whenDue taken (.refl s) ((onlyChannel_setChan s c _).trans (onlyChannel_bandChange _ _ _))
  case confirmTimerExpiry =>
    refine of_whenDue taken (.refl s) ?_
    unfold expireConfirm; split
    · exact onlyChannel_contactAlarm s c
    · exact onlyChannel_setChan s c _
  case restoreTimerExpiry =>
    refine of_whenDue taken (.refl s) ?_
    unfold expireRestore; split
    · exact onlyChannel_contactRestore s c
    · exact onlyChannel_setChan s c _
  case windowEnd => exact of_whenDue taken (.refl s) (onlyChannel_endWindow s c _)
  case wiringFaultEntry =>
    exact of_whenDue taken (.refl s) ((onlyChannel_setChan s c _).then (kept_tellTrouble _ _ _))
  case wiringFaultBandChange =>
    exact of_whenDue taken (.refl s)
      (((onlyChannel_setChan s c _).then (kept_tellTrouble _ _ _)).then (kept_tellTrouble _ _ _))
  case wiringFaultExit => exact of_whenDue taken (.refl s) (onlyChannel_faultExit s c _)
  case channelSample =>
    refine of_whenDue taken (.refl s) ?_
    unfold sampleChannel; split
    · exact .refl s
    · exact onlyChannel_setChan s c _

end

end Sys2Proof.Machine
end


section
/-! What the port's commands leave alone, and what all other events do. -/

namespace Sys2Proof.Machine

/-! ### The maintenance port -/

/-- Two states that differ only in what `Kept` leaves open and in the port. -/
structure OnlyPort (s t : State) : Prop where
  kept : Kept { s with port := t.port } t

/-- Two states that differ only in what `Kept` leaves open, in the port and in channels. -/
structure OnlyPortAndChannels (s t : State) : Prop where
  kept : Kept { s with channels := t.channels, port := t.port } t

section
variable {s t u : State} {c : ChannelNo}

theorem OnlyPort.andChannels (h : OnlyPort s t) : OnlyPortAndChannels s t := ⟨h.kept.withChannels t.channels⟩

/-- What follows a change that `Kept` allows. -/
theorem Kept.thenPort (h : Kept s t) (k : OnlyPort t u) : OnlyPort s u := ⟨(h.withPort u.port).trans k.kept⟩

/-- What follows a change of one channel. -/
theorem OnlyChannel.thenPort (h : OnlyChannel c s t) (k : OnlyPort t u) : OnlyPortAndChannels s u :=
  ⟨((h.kept.withPort u.port).trans k.kept).withChannels u.channels⟩

/-- What follows a change of the port. -/
theorem OnlyPort.thenChannels (h : OnlyPort s t) (k : OnlyPortAndChannels t u) : OnlyPortAndChannels s u :=
  ⟨((h.kept.withPort u.port).withChannels u.channels).trans k.kept⟩

end

section
variable (s : State)

theorem onlyPort_setPort (f : Port → Port) : OnlyPort s (s.setPort f) := ⟨.refl _⟩

theorem onlyPort_refl : OnlyPort s s := onlyPort_setPort s id

theorem onlyPort_sendAnswer (ls : List Text) (restart : Bool) : OnlyPort s (sendAnswer ls restart s) :=
  onlyPort_setPort s _

theorem onlyPort_answerOk (ls : List Text) : OnlyPort s (answerOk ls s) := onlyPort_sendAnswer s _ _

theorem onlyPort_answerError (e : ErrorCode) : OnlyPort s (answerError e s) := onlyPort_sendAnswer s _ _

theorem kept_abortAcquisition : Kept s (abortAcquisition s) := by
  have released : Kept s (match s.access.state with
      | .check _ l | .preempt _ l _ | .granted _ l _ _ => releaseAndIdle l s
      | .wait _ _ _ | .holdoff _ _ _ _ _ | .idle => s.setAccess .idle) := by
    split <;> first | exact kept_releaseAndIdle s _ | exact kept_setAccess s _
  unfold abortAcquisition; dsimp only; split
  · exact (released.trans (kept_setReport _ _ _)).trans (kept_decideHead _)
  · exact released

theorem onlyPort_doHist (n : Nat) : OnlyPort s (doHist n s) := by
  unfold doHist; split
  · exact onlyPort_answerOk s _
  · exact onlyPort_answerError s _

theorem onlyPort_doChan (n : Nat) : OnlyPort s (doChan n s) := by
  unfold doChan; split
  · exact onlyPort_answerError s _
  · exact onlyPort_answerOk s _

theorem onlyPort_doAck : OnlyPort s (doAck s) := (kept_trouble s _).thenPort (onlyPort_answerOk _ _)

theorem onlyPort_doTest : OnlyPort s (doTest s) := by
  unfold doTest; split
  · exact onlyPort_answerError s _
  · exact (kept_handReport s _).thenPort (onlyPort_answerOk _ _)

theorem onlyPort_doAbort : OnlyPort s (doAbort s) := by
  have aborted : Kept s (if s.access.state ≠ .idle then abortAcquisition s else s) := by
    split
    · exact kept_abortAcquisition s
    · exact .refl s
  unfold doAbort; dsimp only; split
  · refine Kept.thenPort ?_ (onlyPort_answerOk _ _)
    split
    · exact aborted.trans (kept_endCall _ _)
    · exact aborted
  · exact onlyPort_answerError s _

/-- A request on a channel touches that channel at most, and the answer is the port's. -/
theorem onlyPortAndChannels_onChannel (n : Nat) (act : ChannelNo → State → State)
    (one : ∀ c, OnlyChannel c s (act c s)) : OnlyPortAndChannels s (onChannel n act s) := by
  unfold onChannel; split
  · exact (onlyPort_answerError s _).andChannels
  · rename_i c _
    split
    · exact (onlyPort_answerError s _).andChannels
    · exact (one c).thenPort (onlyPort_answerOk _ _)

theorem onlyPortAndChannels_doBypass (n : Nat) : OnlyPortAndChannels s (doBypass n s) :=
  onlyPortAndChannels_onChannel s n _ (onlyChannel_bypassChannel s)

theorem onlyPortAndChannels_doUnbypass (n : Nat) : OnlyPortAndChannels s (doUnbypass n s) :=
  onlyPortAndChannels_onChannel s n _ (onlyChannel_unbypassChannel s)

theorem onlyPortAndChannels_doCommand (p : PortCommand) : OnlyPortAndChannels s (doCommand p s) := by
  cases p
  case hist => exact (onlyPort_doHist s _).andChannels
  case chan => exact (onlyPort_doChan s _).andChannels
  case ack => exact (onlyPort_doAck s).andChannels
  case bypass => exact onlyPortAndChannels_doBypass s _
  case unbypass => exact onlyPortAndChannels_doUnbypass s _
  case test => exact (onlyPort_doTest s).andChannels
  case abort => exact (onlyPort_doAbort s).andChannels
  all_goals exact (onlyPort_sendAnswer s _ _).andChannels

theorem onlyPortAndChannels_takeLine (w : PortLine) : OnlyPortAndChannels s (takeLine w s) := by
  unfold takeLine; split
  · exact (onlyPort_answerError s _).andChannels
  · split
    · exact (onlyPort_refl s).andChannels
    · split
      · exact onlyPortAndChannels_doCommand s _
      · exact (onlyPort_answerError s _).andChannels

theorem onlyPortAndChannels_completeLine (w : PortLine) : OnlyPortAndChannels s (completeLine w s) := by
  unfold completeLine; split
  · exact (onlyPort_setPort s _).andChannels
  · exact onlyPortAndChannels_takeLine s _

theorem onlyPortAndChannels_takeCharacter (code : Nat) : OnlyPortAndChannels s (takeCharacter code s) := by
  unfold takeCharacter; split
  · exact (onlyPort_setPort s _).andChannels
  · split
    · exact (onlyPort_setPort s _).thenChannels (onlyPortAndChannels_completeLine _ _)
    · split
      · exact (onlyPort_setPort s _).andChannels
      · exact (onlyPort_refl s).andChannels

/-- A command given whole does what it does at once, or changes the port alone (R161, R162). -/
theorem giveCommand_onlyPort_or (p : PortCommand) (act : State → State) :
    giveCommand p act s = act s ∨ OnlyPort s (giveCommand p act s) := by
  obtain ⟨_, h⟩ | ⟨_, _, _, h⟩ | ⟨_, _, _, h⟩ | ⟨_, _, h⟩ := giveCommand_cases s p act
  · exact .inr (by rw [h]; exact onlyPort_refl s)
  · exact .inl h
  · exact .inr (by rw [h]; exact onlyPort_answerError s _)
  · exact .inr (by rw [h]; exact onlyPort_setPort s _)

theorem onlyPort_giveCommand (p : PortCommand) (act : State → State) (h : OnlyPort s (act s)) :
    OnlyPort s (giveCommand p act s) := by
  obtain e | e := giveCommand_onlyPort_or s p act
  · rw [e]; exact h
  · exact e

theorem onlyPortAndChannels_giveCommand (p : PortCommand) (act : State → State) (h : OnlyPortAndChannels s (act s)) :
    OnlyPortAndChannels s (giveCommand p act s) := by
  obtain e | e := giveCommand_onlyPort_or s p act
  · rw [e]; exact h
  · exact e.andChannels

/-- A command of the port that is none of the bypass requests touches the port, and nothing that `Kept` names besides. -/
theorem onlyPort_exec {i : Instr} {t : State} (port : portEvent i = true) (bypass : bypassEvent i = false)
    (taken : exec i s = .next t) : OnlyPort s t := by
  cases i <;> cases port <;> cases bypass <;> cases taken
  case hist => exact onlyPort_giveCommand s _ _ (onlyPort_doHist s _)
  case chan => exact onlyPort_giveCommand s _ _ (onlyPort_doChan s _)
  case ack => exact onlyPort_giveCommand s _ _ (onlyPort_doAck s)
  case test => exact onlyPort_giveCommand s _ _ (onlyPort_doTest s)
  case abort => exact onlyPort_giveCommand s _ _ (onlyPort_doAbort s)
  all_goals exact onlyPort_giveCommand s _ _ (onlyPort_sendAnswer s _ _)

/-- A bypass request, or a character that completes one's line, touches channels and the port. -/
theorem onlyPortAndChannels_exec {i : Instr} {t : State} (bypass : bypassEvent i = true) (taken : exec i s = .next t) :
    OnlyPortAndChannels s t := by
  cases i <;> cases bypass
  case characterReceived =>
    exact of_whenDue taken (onlyPort_refl s).andChannels (onlyPortAndChannels_takeCharacter s _)
  case bypass =>
    cases taken; exact onlyPortAndChannels_giveCommand s _ _ (onlyPortAndChannels_doBypass s _)
  case unbypass =>
    cases taken; exact onlyPortAndChannels_giveCommand s _ _ (onlyPortAndChannels_doUnbypass s _)

/-! ### All other events -/

/-- A symbol reported, or the expiry of a heard entry, touches the peer listener alone of what `Kept` names. -/
theorem onlyListener_symbolReport {l : LineNo} {p : TonePair} {d : Nat} {t : State}
    (taken : exec (.symbolReport l p d) s = .next t) : OnlyListener s t := by
  unfold exec at taken
  refine of_whenDue taken (.refl s) ?_
  split
  · exact onlyListener_reportSymbol s _ _ _
  · exact .refl s

theorem onlyListener_heardEntryExpiry {key : HeardKey} {t : State}
    (taken : exec (.heardEntryExpiry key) s = .next t) : OnlyListener s t :=
  of_whenDue taken (.refl s) (onlyListener_forgetHeard s _)

/-- The end of a clash touches the peer listener alone of what `Kept` names, and not its table (R131). -/
theorem onlyListener_clashEnd {t : State} (taken : exec .clashEnd s = .next t) :
    OnlyListener s t ∧ t.listener.heard = s.listener.heard := by
  refine of_whenDue (R := fun s t => OnlyListener s t ∧ t.listener.heard = s.listener.heard) taken ⟨.refl s, rfl⟩ ⟨?_, ?_⟩
  · exact (onlyListener_listener s _).then (kept_tellTrouble _ _ _)
  · exact (kept_tellTrouble _ _ _).heard

/-- An acknowledgement tone touches the peer listener and last queued kinds of what `Kept` names (R19, R130, R135). -/
theorem andKinds_ackRecognised {l : LineNo} {f : Nat} {t : State} (taken : exec (.ackRecognised l f) s = .next t) :
    OnlyListenerAndKinds s t := by
  unfold exec at taken
  refine of_whenDue taken (.refl s) ?_
  have noted := (kept_noteHeard s l fun ln => { ln with ackHeard := true }).andKinds
  obtain h | h | h := routeTone_cases l callAck (fun t => peerAck l (discardStream l t))
    (noteHeard l (fun ln => { ln with ackHeard := true }) s) <;> rw [h]
  · exact noted.trans (kept_callAck _).andKinds
  · exact noted
  · exact (noted.trans (kept_discardStream _ _).andKinds).trans (andKinds_peerAck _ _)

/-- The events by which the peer listener's table or its clash may change (R127 to R131). -/
def listenerEvent : Instr → Bool
  | .symbolReport _ _ _ | .ackRecognised _ _ | .heardEntryExpiry _ | .clashEnd => true
  | _ => false

/-- Every event that is no start's, no channel's, not the port's and not the peer listener's keeps all that `Kept` names. -/
theorem kept_exec {i : Instr} {t : State} (start : startEvent i = false) (channel : channelEvent i = none)
    (port : portEvent i = false) (listener : listenerEvent i = false) (taken : exec i s = .next t) : Kept s t := by
  cases i <;> cases start <;> cases channel <;> cases port <;> cases listener <;> unfold exec at taken <;>
    refine of_whenDue taken (.refl s) ?_
  case eligibleAtReached => exact kept_decideHead s
  case restEnd => exact kept_returnFromRest s _
  case testTimerExpiry => exact kept_expireTestTimer s
  case holdoffDeadline => exact kept_seizeChosen s
  case preemptWaitExpiry => exact kept_expirePreemptWait s
  case yieldDemandRepeat => exact kept_repeatDemand s
  case yieldDemandGapEnd => exact kept_sendClassDigit s
  case preemptSuccess => exact kept_succeedPreempt s
  case preemptResponseEnd => exact kept_failPreempt s
  case lineVoltageSample => exact kept_setLine s _ _
  case loopCurrentSample => exact kept_setLine s _ _
  case lineOnhookBandQualified => exact kept_qualifyOnhook s _
  case settlingEnd => exact kept_endPeriod s _
  case guardEnd => exact kept_endPeriod s _
  case noLoopFaultEnd => exact kept_endPeriod s _
  case deadRunLimit => exact kept_deadFault s _
  case deadFaultRecovery => exact kept_recoverLine s _
  case currentBandQualified => exact kept_qualifyCurrent s _
  case checkWindowEnd => exact kept_endCheckWindow s _
  case breakEnd => exact kept_endBreak s _
  case intrusion =>
    exact (kept_setLine s _ _).trans (kept_tellHolder _ _ _ _ (kept_accessIntrusion _) (kept_pauseCall _))
  case loopLoss =>
    exact (kept_setLine s _ _).trans (kept_tellHolder _ _ _ _ (kept_accessLoopLoss _) (kept_callLoopLoss _))
  case dialRecognised =>
    exact (kept_noteHeard s _ _).trans (kept_routeTone _ _ _ _ (kept_callDial _) (kept_discardStream _ _))
  case dialEnd => exact kept_noteHeard s _ _
  case busyReport =>
    exact (kept_noteHeard s _ _).trans (kept_routeTone _ _ _ _ (kept_callBusy _) (kept_discardStream _ _))
  case handshakeRecognised =>
    exact (kept_noteHeard s _ _).trans (kept_routeTone _ _ _ _ (kept_callHandshake _) (kept_discardStream _ _))
  case handshakeEnd =>
    exact (kept_noteHeard s _ _).trans (kept_routeTone _ _ _ _ (kept_callHandshakeEnd _) (.refl _))
  case ackEnd => exact (kept_noteHeard s _ _).trans (kept_routeTone _ _ _ _ (kept_callAckEnd _) (.refl _))
  case silenceReport =>
    exact (kept_setLine s _ _).trans (kept_routeTone _ _ _ _ (.refl _) (kept_discardStream _ _))
  case toneRequestDone => exact kept_endTone s
  case takeGrant => exact kept_takeOffered s
  case dialDeadline => exact kept_endCall s _
  case dialGapEnd => exact kept_endDialGap s
  case handshakeDeadline => exact kept_endCall s _
  case leadInDue => exact kept_beginBlock s
  case blockSymbolGapEnd => exact kept_sendSymbol s
  case ackDeadline => exact kept_expireAck s
  case pauseEnd => exact kept_endPause s
  case awaitingAckDeadline => exact kept_setDecoder s _ _

/-- What the peer listener's events may touch, event by event. -/
theorem exec_listener_cases {i : Instr} {t : State} (listener : listenerEvent i = true) (taken : exec i s = .next t) :
    ((∃ l p d, i = .symbolReport l p d) ∧ OnlyListener s t) ∨
    ((∃ l f, i = .ackRecognised l f) ∧ OnlyListenerAndKinds s t) ∨
    ((∃ key, i = .heardEntryExpiry key) ∧ OnlyListener s t) ∨
    (OnlyListener s t ∧ t.listener.heard = s.listener.heard) := by
  cases i <;> cases listener
  case symbolReport l p d => exact .inl ⟨⟨l, p, d, rfl⟩, onlyListener_symbolReport s taken⟩
  case ackRecognised l f => exact .inr (.inl ⟨⟨l, f, rfl⟩, andKinds_ackRecognised s taken⟩)
  case heardEntryExpiry key => exact .inr (.inr (.inl ⟨⟨key, rfl⟩, onlyListener_heardEntryExpiry s taken⟩))
  case clashEnd => exact .inr (.inr (.inr (onlyListener_clashEnd s taken)))

/-- What an event that is no start's may touch of all that `Kept` names, by the block it belongs to. -/
theorem exec_frame_cases {i : Instr} {t : State} (start : startEvent i = false) (taken : exec i s = .next t) :
    (∃ c, channelEvent i = some c ∧ OnlyChannel c s t) ∨
    (bypassEvent i = true ∧ portEvent i = true ∧ OnlyPortAndChannels s t) ∨
    (portEvent i = true ∧ OnlyPort s t) ∨
    ((∃ l p d, i = .symbolReport l p d) ∧ OnlyListener s t) ∨
    ((∃ l f, i = .ackRecognised l f) ∧ OnlyListenerAndKinds s t) ∨
    ((∃ key, i = .heardEntryExpiry key) ∧ OnlyListener s t) ∨
    (OnlyListener s t ∧ t.listener.heard = s.listener.heard) := by
  cases channel : channelEvent i with
  | some c => exact .inl ⟨c, rfl, onlyChannel_exec s c channel taken⟩
  | none =>
    refine .inr ?_
    cases port : portEvent i with
    | true =>
      cases bypass : bypassEvent i with
      | true => exact .inl ⟨rfl, rfl, onlyPortAndChannels_exec s bypass taken⟩
      | false => exact .inr (.inl ⟨rfl, onlyPort_exec s port bypass taken⟩)
    | false =>
      refine .inr (.inr ?_)
      cases listener : listenerEvent i with
      | false =>
        have kept := kept_exec s start channel port listener taken
        exact .inr (.inr (.inr ⟨kept.onlyListener, kept.heard⟩))
      | true => exact exec_listener_cases s listener taken

end

end Sys2Proof.Machine

namespace Sys2Proof.Proofs
open Sys2Proof Sys2Proof.Machine

/-- Settles O5: each part by the block the event belongs to, from what that block's events may touch. -/
theorem frameOfChannelsHeardAndPort : Obligations.Frame_of_channels_heard_and_port := by
  intro i s t taken start
  refine ⟨fun c d event other => (onlyChannel_exec s c event taken).others d other, fun noChannel noBypass noAck => ?_, ?_,
    fun noSymbol noAck noExpiry => ?_, fun noPort => ?_⟩
  · obtain ⟨c, event, _⟩ | ⟨bypass, _, _⟩ | ⟨_, port⟩ | ⟨_, peer⟩ | ⟨⟨l, f, ack⟩, _⟩ | ⟨_, peer⟩ | ⟨peer, _⟩ :=
      exec_frame_cases s start taken
    · simp [noChannel] at event
    · simp [noBypass] at bypass
    · exact port.kept.channels
    · exact peer.channels
    · exact absurd ack (noAck l f)
    · exact peer.channels
    · exact peer.channels
  · rintro l f rfl
    exact (andKinds_ackRecognised s taken).kinds
  · obtain ⟨c, _, one⟩ | ⟨_, _, port⟩ | ⟨_, port⟩ | ⟨⟨l, p, d, symbol⟩, _⟩ | ⟨⟨l, f, ack⟩, _⟩ | ⟨⟨key, expiry⟩, _⟩
        | ⟨_, heard⟩ := exec_frame_cases s start taken
    · exact one.kept.heard
    · exact port.kept.heard
    · exact port.kept.heard
    · exact absurd symbol (noSymbol l p d)
    · exact absurd ack (noAck l f)
    · exact absurd expiry (noExpiry key)
    · exact heard
  · obtain ⟨c, _, one⟩ | ⟨_, port, _⟩ | ⟨port, _⟩ | ⟨_, peer⟩ | ⟨_, peer⟩ | ⟨_, peer⟩ | ⟨peer, _⟩ :=
      exec_frame_cases s start taken
    · exact one.kept.port
    · simp [noPort] at port
    · simp [noPort] at port
    · exact peer.port
    · exact peer.kept.port
    · exact peer.port
    · exact peer.port

end Sys2Proof.Proofs
end


section
/-! The counts (sections 1.1, 5.4 and 8.1): a queue with two reports of one number lets a charged return raise an attempt count past
its class maximum. Such a queue is within every bound that `State.bounded` names, which does not speak of numbers. -/

namespace Sys2Proof.Machine

/-- Two reports under number 0: a FIRE report with eight attempts of at most ten, and behind it a TEST report with none of at most
three. -/
def twoOfOneNumber : List Report :=
  [⟨0, ⟨.fire, .alarm, 100, 0, .unit, none, 0⟩, .inCall, 0, none, 8, 0, false⟩,
   ⟨0, ⟨.test, .status, 321, 0, .unit, none, 0⟩, .inCall, 0, none, 0, 0, false⟩]

/-- A call for number 0 whose dial deadline is reached, about to end NO_DIAL_TONE with an attempt charged. -/
def endingCall : State := { State.reset with
  phase := .running
  queue := { freshQueue with reports := twoOfOneNumber }
  call := { freshCall with state := .dialtoneWait, batch := [⟨0, 0⟩], dialDeadline := some 0 } }

/-- The default settings are in their ranges (R153). -/
theorem defaultSettings_inRange : defaultSettings.inRange := by
  refine ⟨by decide, by decide, by decide, fun d => ?_, fun k d => ?_, fun k => ?_, by decide, by decide, by decide, by decide,
    by decide, by decide, by decide, ?_⟩
  · cases d <;> decide
  · cases k <;> cases d <;> decide
  · cases k <;> decide
  · unfold ChannelSettings.inRange; decide

theorem endingCall_bounded : State.bounded { endingCall with pending := [.dialDeadline] } := by
  refine ⟨defaultSettings_inRange, ?_, by decide, by decide, by decide, ?_, by decide, by decide, ?_, by decide⟩
  · unfold Channel.bounded; decide
  · intro t0 l rec h; cases h
  · intro c
    simp [State.cond, endingCall, State.reset, freshTrouble, freshCondition]

/-- The charge, reckoned from the FIRE report, sets nine attempts in the TEST report too (R41). -/
theorem endingCall_charged :
    ∃ r ∈ (endCall .noDialTone endingCall).queue.reports, r.matter.cls = .test ∧ r.attempts = 9 := by
  decide

end Sys2Proof.Machine

namespace Sys2Proof.Proofs
open Sys2Proof Sys2Proof.Machine

/-- Refutes O56: R41's charge is reckoned from the first report of the number and set in every one, so that the TEST report behind it
comes to nine attempts of at most three. -/
theorem not_stepsKeepCounts : ¬ Obligations.Steps_keep_counts := by
  intro keep
  have ended : step { endingCall with pending := [.dialDeadline] } = .next (endCall .noDialTone endingCall) :=
    whenDue_true (by decide)
  obtain ⟨-, -, -, attempts, -⟩ := keep _ _ endingCall_bounded ended
  obtain ⟨r, mem, test, nine⟩ := endingCall_charged
  have settings : (endCall .noDialTone endingCall).settings = defaultSettings := (kept_endCall _ _).settings
  have most := (attempts r mem).2
  rw [settings, test, nine] at most
  exact absurd most (by decide)

end Sys2Proof.Proofs
end


section
/-! Sequence numbers and the history (R28, R48), and the reports that are not entered (R32, R33). -/

namespace Sys2Proof.Machine

/-! ### Sequence numbers (R28) -/

theorem nextSeq_eq_mod {n : Nat} (h : n < 65536) : nextSeq n = (n + 1) % 65536 := by
  unfold nextSeq; split <;> omega

theorem nextSeq_lt {n : Nat} (h : n < 65536) : nextSeq n < 65536 := by
  rw [nextSeq_eq_mod h]; exact Nat.mod_lt _ (by decide)

/-- The search goes through the numbers from its candidate on, each one passed over held, and gives one held only when its steps have
run out. -/
theorem firstFree_spec (held : List Nat) : ∀ (steps n : Nat), n < 65536 →
    ∃ k ≤ steps, firstFree held steps n = (n + k) % 65536 ∧ (∀ j < k, (n + j) % 65536 ∈ held)
      ∧ (k < steps → firstFree held steps n ∉ held)
  | 0, n, h => ⟨0, le_rfl, (Nat.mod_eq_of_lt h).symm, by simp, by simp⟩
  | steps + 1, n, h => by
    unfold firstFree
    split
    · rename_i mem
      obtain ⟨k, le, eq, passed, free⟩ := firstFree_spec held steps (nextSeq n) (nextSeq_lt h)
      have shift (j : Nat) : (nextSeq n + j) % 65536 = (n + (j + 1)) % 65536 := by rw [nextSeq_eq_mod h]; omega
      refine ⟨k + 1, by omega, by rw [eq, shift], fun j lt => ?_, fun lt => free (by omega)⟩
      cases j with
      | zero => simpa [Nat.mod_eq_of_lt h] using mem
      | succ j => rw [← shift]; exact passed j (by omega)
    · rename_i free
      exact ⟨0, by omega, (Nat.mod_eq_of_lt h).symm, by simp, fun _ => free⟩

/-- Of more numbers in a row than a list is long, at most 65536, one is not in the list. -/
theorem exists_notMem_of_length_lt (held : List Nat) (n k : Nat) (long : held.length < k) (few : k ≤ 65536) :
    ∃ j < k, (n + j) % 65536 ∉ held := by
  by_contra all
  push Not at all
  have distinct : Set.InjOn (fun j => (n + j) % 65536) (Finset.range k) := by
    intro a ha b hb eq
    simp only [Finset.coe_range, Set.mem_Iio] at ha hb eq
    omega
  have within : (Finset.range k).image (fun j => (n + j) % 65536) ⊆ held.toFinset := by
    intro x hx
    obtain ⟨j, hj, rfl⟩ := Finset.mem_image.1 hx
    exact List.mem_toFinset.2 (all j (Finset.mem_range.1 hj))
  have card := Finset.card_le_card within
  rw [Finset.card_image_of_injOn distinct, Finset.card_range] at card
  exact absurd (card.trans held.toFinset_card_le) (by omega)

/-- The number of the next report is the first free one from the counter on, after 65535 from 0 on (R28). -/
theorem newSeq_spec (q : Queue) (few : q.reports.length < 65536) (counter : q.counter < 65536) :
    q.newSeq ∉ q.reports.map (·.seq) ∧ ∃ k ≤ q.reports.length, q.newSeq = (q.counter + k) % 65536
      ∧ ∀ j < k, (q.counter + j) % 65536 ∈ q.reports.map (·.seq) := by
  obtain ⟨k, le, eq, passed, free⟩ := firstFree_spec (q.reports.map (·.seq)) q.reports.length q.counter counter
  refine ⟨?_, k, le, eq, passed⟩
  rcases le.lt_or_eq with lt | rfl
  · exact free lt
  · obtain ⟨j, lt, notMem⟩ := exists_notMem_of_length_lt (q.reports.map (·.seq)) q.counter (q.reports.length + 1)
      (by simp) (by omega)
    rcases Nat.lt_succ_iff_lt_or_eq.1 lt with before | rfl
    · exact absurd (passed j before) notMem
    · unfold Queue.newSeq; rw [eq]; exact notMem

section
variable {s : State}

theorem newSeq_notMem (h : s.queueSound) : s.queue.newSeq ∉ s.queue.reports.map (·.seq) := by
  obtain ⟨length, -, -, counter, -⟩ := h
  exact (newSeq_spec s.queue (by omega) counter).1

theorem newSeq_lt (h : s.queueSound) : s.queue.newSeq < 65536 := by
  obtain ⟨length, -, -, counter, -⟩ := h
  obtain ⟨-, k, -, eq, -⟩ := newSeq_spec s.queue (by omega) counter
  rw [eq]; exact Nat.mod_lt _ (by decide)

end

/-! ### The history (R48) -/

/-- The ring drops its oldest entry only when it is full. -/
theorem historyWith_eq (s : State) (e : HistoryEntry) :
    s.historyWith e = s.queue.history.drop (s.queue.history.length - 63) ++ [e] := by
  unfold State.historyWith
  split
  · rw [Nat.sub_eq_zero_of_le (by omega), List.drop_zero]
  · rfl

theorem writeHistory_eq (s : State) (e : HistoryEntry) :
    writeHistory e s = { s with queue := { s.queue with history := s.historyWith e } } := by
  rw [historyWith_eq]; rfl

theorem length_historyWith (s : State) (e : HistoryEntry) : (s.historyWith e).length ≤ 64 := by
  rw [historyWith_eq]; simp; omega

/-! ### Reports that are not entered (R32, R33) -/

section
variable (m : Matter) (s : State)

/-- The state in which a report handed has gone straight to the history under its number (R28, R32, R33). -/
def goneToHistory (f : Fate) : State :=
  { s with queue := { s.queue with
    counter := nextSeq s.queue.newSeq, history := s.historyWith ⟨s.queue.newSeq, m, f, s.clock⟩ } }

theorem enterReport_of_noRoute (route : s.settings.hasRoute m.cls = false) :
    enterReport m s = (goneToHistory m s .notRouted, .notRouted) := by
  obtain ⟨_, h⟩ | ⟨has, _⟩ | ⟨has, _⟩ | ⟨has, _⟩ | ⟨has, _⟩ := enterReport_cases s m
  · rw [h, writeHistory_eq]; rfl
  all_goals simp [route] at has

theorem enterReport_of_covered {peer : Nat} (route : s.settings.hasRoute m.cls = true) (word : consult m s = some peer) :
    enterReport m s = (goneToHistory m s (.covered peer), .covered) := by
  simp only [enterReport, route, word]
  rw [writeHistory_eq]
  rfl

theorem handReport_of_noRoute (route : s.settings.hasRoute m.cls = false) :
    handReport m s = goneToHistory m s .notRouted := by
  simp [handReport, enterReport_of_noRoute m s route]

theorem handReport_of_covered {peer : Nat} (route : s.settings.hasRoute m.cls = true) (word : consult m s = some peer) :
    handReport m s = goneToHistory m s (.covered peer) := by
  simp [handReport, enterReport_of_covered m s route word]

end

/-- A class without a route, in the terms of the statements (R44). -/
theorem hasRoute_eq_false {set : Settings} {c : ReportClass} : set.hasRoute c = false ↔ (set.routes.get c).first = none := by
  simp [Settings.hasRoute]

theorem hasRoute_eq_true {set : Settings} {c : ReportClass} : set.hasRoute c = true ↔ (set.routes.get c).first ≠ none := by
  simp [Settings.hasRoute, Option.isSome_iff_ne_none]

end Sys2Proof.Machine

namespace Sys2Proof.Proofs
open Sys2Proof Sys2Proof.Machine

/-- Settles O17: the search from the counter finds a free number among as many as are held and one more; the rest are the two first
cases of `enterReport`. -/
theorem numbersAndReportsNotEntered : Obligations.Numbers_and_reports_not_entered := by
  refine ⟨fun s sound => ?_, fun m s => ?_⟩
  · obtain ⟨length, -, -, counter, -⟩ := id sound
    obtain ⟨fresh, k, le, eq, passed⟩ := newSeq_spec s.queue (by omega) counter
    refine ⟨newSeq_lt sound, fresh, fun free => ?_, ⟨k, le, eq, passed⟩, fun m route => ?_⟩
    · cases k with
      | zero => rw [eq, Nat.add_zero, Nat.mod_eq_of_lt counter]
      | succ k => exact absurd (by simpa [Nat.mod_eq_of_lt counter] using passed 0 (by omega)) free
    · rw [handReport_of_noRoute m s route]; rfl
  · intro q next gone
    exact ⟨fun none => handReport_of_noRoute m s (hasRoute_eq_false.2 none),
      fun peer some word => handReport_of_covered m s (hasRoute_eq_true.2 some) word⟩

end Sys2Proof.Proofs
end


section
/-! A call in CLOSING (R108): nothing is offered to it and the access controller is told nothing, so that the returns of its reports and
all that the trouble unit makes of them touch the queue and the trouble unit alone. -/

namespace Sys2Proof.Machine

/-- Two states that differ only in the queue and the trouble unit, no report having gone into the call. -/
structure Bookkept (s t : State) : Prop where
  same : t = { s with queue := t.queue, trouble := t.trouble }
  inCall : ∀ r ∈ t.queue.reports, r.state = .inCall → r ∈ s.queue.reports

section
variable {s t u : State}

theorem Bookkept.refl (s : State) : Bookkept s s := ⟨rfl, fun _ mem _ => mem⟩

theorem Bookkept.trans (h : Bookkept s t) (k : Bookkept t u) : Bookkept s u where
  same := k.same.trans (by rw [h.same])
  inCall r mem st := h.inCall r (k.inCall r mem st) st

theorem Bookkept.call (h : Bookkept s t) : t.call = s.call := by rw [h.same]
theorem Bookkept.access (h : Bookkept s t) : t.access = s.access := by rw [h.same]
theorem Bookkept.now (h : Bookkept s t) : t.now = s.now := by rw [h.same]
theorem Bookkept.settings (h : Bookkept s t) : t.settings = s.settings := by rw [h.same]
theorem Bookkept.lines (h : Bookkept s t) : t.lines = s.lines := by rw [h.same]
theorem Bookkept.line (h : Bookkept s t) (l : LineNo) : t.line l = s.line l := by simp [State.line, h.lines]

/-- What `Bookkept` allows leaves a call in CLOSING in CLOSING. -/
theorem Bookkept.closing (h : Bookkept s t) (closing : s.call.state = .closing) : t.call.state = .closing := by
  rw [h.call, closing]

/-- A second change that needs the call still in CLOSING. -/
theorem Bookkept.andThen (h : Bookkept s t) (closing : s.call.state = .closing)
    (k : t.call.state = .closing → Bookkept t u) : Bookkept s u := h.trans (k (h.closing closing))

end

section
variable (s : State)

theorem bookkept_trouble (x : TroubleUnit) : Bookkept s { s with trouble := x } := ⟨rfl, fun _ mem _ => mem⟩

theorem bookkept_setCond (c : Condition) (f : ConditionRecord → ConditionRecord) : Bookkept s (s.setCond c f) :=
  bookkept_trouble s _

theorem bookkept_makePending (c : Condition) (m : Matter) : Bookkept s (makePending c m s) := ⟨rfl, fun _ mem _ => mem⟩

theorem bookkept_writeHistory (e : HistoryEntry) : Bookkept s (writeHistory e s) := ⟨rfl, fun _ mem _ => mem⟩

theorem bookkept_giveSeq : Bookkept s (giveSeq s) := ⟨rfl, fun _ mem _ => mem⟩

theorem bookkept_filter (p : Report → Bool) :
    Bookkept s { s with queue := { s.queue with reports := s.queue.reports.filter p } } :=
  ⟨rfl, fun _ mem _ => List.mem_of_mem_filter mem⟩

theorem bookkept_evict (v : Report) : Bookkept s (evict v s) := (bookkept_filter s _).trans (bookkept_writeHistory _ _)

theorem bookkept_refuse (q : Nat) (m : Matter) : Bookkept s (refuse q m s) := ⟨rfl, fun _ mem _ => mem⟩

/-- A change of a report that does not take it into a call. -/
theorem bookkept_setReport (q : Nat) (f : Report → Report) (out : ∀ r, (f r).state ≠ .inCall) :
    Bookkept s (s.setReport q f) where
  same := rfl
  inCall r mem st := by
    obtain ⟨x, here, rfl⟩ := List.mem_map.1 mem
    by_cases h : x.seq = q
    · rw [if_pos h] at st; exact absurd st (out x)
    · rw [if_neg h]; exact here

/-! ### What the queue and the trouble unit do in CLOSING -/

/-- Nothing is offered to a call in CLOSING (R34). -/
theorem offerReport_closing (closing : s.call.state = .closing) (r : Report) : offerReport r s = s := by
  simp [offerReport, State.inCall, closing]

theorem bookkept_decideHead (closing : s.call.state = .closing) : Bookkept s (decideHead s) := by
  rw [decideHead_inCall s (by simp [closing])]
  exact ⟨rfl, fun _ mem _ => mem⟩

theorem bookkept_placeReport (r : Report) (out : r.state ≠ .inCall) (closing : s.call.state = .closing) :
    Bookkept s (placeReport r s) := by
  have inserted : Bookkept s { s with queue := { s.queue with reports := insertInOrder r s.queue.reports } } :=
    ⟨rfl, fun x mem st => (mem_insertInOrder.1 mem).resolve_left fun eq => out (eq ▸ st)⟩
  have decided := inserted.andThen closing (bookkept_decideHead _)
  rw [placeReport, offerReport_closing _ (decided.closing closing)]
  exact decided

theorem bookkept_enterReport (m : Matter) (closing : s.call.state = .closing) : Bookkept s (enterReport m s).1 := by
  have given := bookkept_giveSeq s
  have new : (newReport s.queue.newSeq m s).state ≠ .inCall := by simp [newReport]
  obtain ⟨_, h⟩ | ⟨_, _, _, h⟩ | ⟨_, _, _, h⟩ | ⟨_, _, _, v, _, h⟩ | ⟨_, _, _, _, h⟩ := enterReport_cases s m <;> rw [h]
  · exact given.trans (bookkept_writeHistory _ _)
  · exact given.trans (bookkept_writeHistory _ _)
  · exact given.andThen closing (bookkept_placeReport _ _ new)
  · exact (given.trans (bookkept_evict _ v)).andThen closing (bookkept_placeReport _ _ new)
  · exact given.trans (bookkept_refuse _ _ _)

theorem bookkept_handTrouble (c : Condition) (m : Matter) (closing : s.call.state = .closing) :
    Bookkept s (handTrouble c m s).1 := by
  have h := bookkept_enterReport s m closing
  unfold handTrouble
  split <;> rename_i e <;> rw [e] at h
  · exact h.trans (bookkept_makePending _ _ _)
  · exact h

theorem bookkept_noticeOnly (c : Condition) (b : Bool) (closing : s.call.state = .closing) :
    Bookkept s (noticeOnly c b s).1 := by
  unfold noticeOnly; split
  · exact .refl s
  · dsimp only; split
    · exact (bookkept_setCond s _ _).andThen closing (bookkept_handTrouble _ _ _)
    · exact bookkept_setCond s _ _

theorem bookkept_overflowBegins (b : Bool) (closing : s.call.state = .closing) : Bookkept s (overflowBegins b s) := by
  unfold overflowBegins; split
  · exact bookkept_noticeOnly s _ _ closing
  · exact .refl s

theorem bookkept_tellTrouble (c : Condition) (b : Bool) (closing : s.call.state = .closing) :
    Bookkept s (tellTrouble c b s) :=
  (bookkept_noticeOnly s c b closing).andThen closing (bookkept_overflowBegins _ _)

theorem bookkept_handPending : ∀ (n : Nat) (s : State), s.call.state = .closing → Bookkept s (handPending n s)
  | 0, s, _ => .refl s
  | n + 1, s, closing => by
    unfold handPending; split
    · exact .refl s
    · rename_i c p _
      have h := bookkept_enterReport s p.matter closing
      split <;> rename_i e <;> rw [e] at h
      · exact (h.trans (bookkept_makePending _ c p.matter)).andThen closing (bookkept_overflowBegins _ _)
      · exact (h.trans (bookkept_setCond _ c _)).andThen closing (bookkept_handPending n _)

theorem bookkept_afterRemoval (closing : s.call.state = .closing) : Bookkept s (afterRemoval s) := by
  have unmarked : Bookkept s { s with queue := { s.queue with overflowMark := false } } := ⟨rfl, fun _ mem _ => mem⟩
  have told := unmarked.andThen closing (bookkept_tellTrouble _ .queueOverflow false)
  unfold afterRemoval; dsimp only; split <;> split
  · exact told.andThen closing (bookkept_handPending _ _)
  · exact bookkept_handPending _ s closing
  · exact told
  · exact .refl s

theorem bookkept_removeReport (r : Report) (f : Fate) (closing : s.call.state = .closing) :
    Bookkept s (removeReport r f s) := by
  have written := (bookkept_filter s fun x => x.seq ≠ r.seq).trans (bookkept_writeHistory _ ⟨r.seq, r.matter, f, s.clock⟩)
  exact (written.andThen closing (bookkept_decideHead _)).andThen closing (bookkept_afterRemoval _)

theorem bookkept_callSucceeded (closing : s.call.state = .closing) : Bookkept s (callSucceeded s) := by
  unfold callSucceeded; split
  · exact .refl s
  · exact bookkept_tellTrouble s _ _ closing

theorem bookkept_deliver (q : Nat) (l : Option LineNo) (d : Option DestId) (closing : s.call.state = .closing) :
    Bookkept s (deliver q l d s) := by
  unfold deliver; split
  · exact bookkept_removeReport s _ _ closing
  · exact .refl s

/-- A report taken out of the call, and the head decided anew. -/
theorem bookkept_takenOut (q : Nat) (f : Report → Report) (out : ∀ r, (f r).state ≠ .inCall)
    (closing : s.call.state = .closing) : Bookkept s (decideHead (s.setReport q f)) :=
  (bookkept_setReport s q f out).andThen closing (bookkept_decideHead _)

theorem bookkept_returnUncharged (d c : Bool) (q : Nat) (closing : s.call.state = .closing) :
    Bookkept s (returnUncharged d c q s) :=
  bookkept_takenOut s q _ (by simp) closing

theorem bookkept_returnCharged (q : Nat) (closing : s.call.state = .closing) : Bookkept s (returnCharged q s) := by
  obtain ⟨_, h⟩ | ⟨r, _, _, h⟩ | ⟨r, _, _, h⟩ := returnCharged_cases s q <;> rw [h]
  · exact .refl s
  · exact bookkept_takenOut s q _ (by simp) closing
  · exact (bookkept_takenOut s q _ (by simp) closing).andThen closing (bookkept_tellTrouble _ _ _)

end

/-- Returning the reports of a batch one after another in CLOSING. -/
theorem bookkept_foldl (f : BatchEntry → State → State)
    (one : ∀ e (s : State), s.call.state = .closing → Bookkept s (f e s)) :
    ∀ (l : List BatchEntry) (s : State), s.call.state = .closing → Bookkept s (l.foldl (fun t e => f e t) s)
  | [], s, _ => .refl s
  | e :: l, s, closing => (one e s closing).trans (bookkept_foldl f one l _ ((one e s closing).closing closing))

/-! ### No report of the batch stays IN_CALL -/

/-- The report of the number is not IN_CALL after a change that takes every report of the number out of the call. -/
theorem notInCall_setReport (s : State) (q : Nat) (f : Report → Report)
    (out : ∀ r, (f r).state ≠ .inCall) : ∀ r ∈ (s.setReport q f).queue.reports, r.state = .inCall → r.seq ≠ q := by
  intro r mem st eq
  obtain ⟨x, -, rfl⟩ := List.mem_map.1 mem
  by_cases h : x.seq = q
  · rw [if_pos h] at st; exact out x st
  · rw [if_neg h] at eq; exact h eq

theorem notInCall_takenOut (s : State) (q : Nat) (f : Report → Report) (out : ∀ r, (f r).state ≠ .inCall) :
    ∀ r ∈ (decideHead (s.setReport q f)).queue.reports, r.state = .inCall → r.seq ≠ q := by
  rw [(headOnly_decideHead _).reports]
  exact notInCall_setReport s q f out

theorem notInCall_returnUncharged (s : State) (d c : Bool) (q : Nat) :
    ∀ r ∈ (returnUncharged d c q s).queue.reports, r.state = .inCall → r.seq ≠ q :=
  notInCall_takenOut s q _ (by simp)

theorem notInCall_returnCharged (s : State) (closing : s.call.state = .closing) (q : Nat) :
    ∀ r ∈ (returnCharged q s).queue.reports, r.state = .inCall → r.seq ≠ q := by
  have told (f : Report → Report) (out : ∀ r, (f r).state ≠ .inCall) :
      ∀ r ∈ (tellTrouble .commFail true (decideHead (s.setReport q f))).queue.reports, r.state = .inCall → r.seq ≠ q :=
    fun r mem st => notInCall_takenOut s q f out r
      ((bookkept_tellTrouble _ _ _ ((bookkept_takenOut s q f out closing).closing closing)).inCall r mem st) st
  obtain ⟨none, h⟩ | ⟨r, _, _, h⟩ | ⟨r, _, _, h⟩ := returnCharged_cases s q <;> rw [h]
  · intro r mem _
    simpa using List.find?_eq_none.1 none r mem
  · exact notInCall_takenOut s q _ (by simp)
  · exact told _ (by simp)

/-- After the returns of a batch in CLOSING no report of the batch is IN_CALL (R40, R41). -/
theorem notInCall_foldl (f : BatchEntry → State → State)
    (one : ∀ e (s : State), s.call.state = .closing → Bookkept s (f e s))
    (back : ∀ e (s : State), s.call.state = .closing → ∀ r ∈ (f e s).queue.reports, r.state = .inCall → r.seq ≠ e.seq) :
    ∀ (l : List BatchEntry) (s : State), s.call.state = .closing →
      ∀ r ∈ (l.foldl (fun t e => f e t) s).queue.reports, r.state = .inCall → r.seq ∉ l.map (·.seq)
  | [], _, _, _, _, _ => by simp
  | e :: l, s, closing, r, mem, st => by
    have closing' := (one e s closing).closing closing
    have first := back e s closing r ((bookkept_foldl f one l _ closing').inCall r mem st) st
    have others := notInCall_foldl f one back l _ closing' r mem st
    simpa using ⟨first, by simpa using others⟩

end Sys2Proof.Machine
end


section
/-! Queue order (R29), and what a call in progress makes of the reports it returns without charge or takes in (R40, R119, R120). -/

namespace Sys2Proof.Machine

/-! ### Queue order (R29) -/

theorem notAfter_iff {a b : Matter} :
    notAfter a b = true ↔ a.cls.rank < b.cls.rank ∨ (a.cls.rank = b.cls.rank ∧ a.occurred ≤ b.occurred) := by
  simp [notAfter]

theorem notAfter_trans {a b c : Matter} (h : notAfter a b = true) (k : notAfter b c = true) : notAfter a c = true := by
  rw [notAfter_iff] at *; omega

theorem notAfter_of_not {a b : Matter} (h : ¬ notAfter a b = true) : notAfter b a = true := by
  rw [notAfter_iff] at *; omega

/-- Reports in queue order. -/
def InOrder (l : List Report) : Prop := l.Pairwise fun a b => notAfter a.matter b.matter = true

/-- A report inserted stands behind those that stand before it or level with it, and before the others (R29). -/
theorem insertInOrder_eq (r : Report) : ∀ l : List Report, InOrder l →
    insertInOrder r l = l.filter (fun x => notAfter x.matter r.matter) ++ r :: l.filter (fun x => !notAfter x.matter r.matter)
  | [], _ => rfl
  | x :: rest, sorted => by
    obtain ⟨first, others⟩ := List.pairwise_cons.1 sorted
    unfold insertInOrder
    split
    · rename_i before
      simp [before, insertInOrder_eq r rest others]
    · rename_i behind
      have later : ∀ y ∈ rest, notAfter y.matter r.matter = false := fun y mem => by
        by_contra h
        exact behind (notAfter_trans (first y mem) (by simpa using h))
      have none : rest.filter (fun y => notAfter y.matter r.matter) = [] := List.filter_eq_nil_iff.2 (by simpa using later)
      have all : rest.filter (fun y => !notAfter y.matter r.matter) = rest := List.filter_eq_self.2 (by simpa using later)
      simp [behind, none, all]

theorem inOrder_insertInOrder (r : Report) : ∀ l : List Report, InOrder l → InOrder (insertInOrder r l)
  | [], _ => List.pairwise_singleton _ _
  | x :: rest, sorted => by
    obtain ⟨first, others⟩ := List.pairwise_cons.1 sorted
    unfold insertInOrder
    split
    · rename_i before
      refine List.pairwise_cons.2 ⟨fun y mem => ?_, inOrder_insertInOrder r rest others⟩
      rcases mem_insertInOrder.1 mem with rfl | mem
      · exact before
      · exact first y mem
    · rename_i behind
      have next := notAfter_of_not behind
      refine List.pairwise_cons.2 ⟨fun y mem => ?_, sorted⟩
      rcases List.mem_cons.1 mem with rfl | mem
      · exact next
      · exact notAfter_trans next (first y mem)

theorem perm_insertInOrder (r : Report) : ∀ l : List Report, (insertInOrder r l).Perm (r :: l)
  | [] => .refl _
  | x :: rest => by
    unfold insertInOrder
    split
    · exact ((perm_insertInOrder r rest).cons x).trans (.swap r x rest)
    · exact .refl _

/-! ### The head decided with no access controller told (R30, R38) -/

/-- The head as it ought to be, and nothing else changed. -/
def headDecided (s : State) : State := { s with queue := { s.queue with head := s.firstEligible } }

theorem decideHead_engaged {s : State} (engaged : s.call.state ≠ .idle) : decideHead s = headDecided s :=
  decideHead_inCall s engaged

/-! ### Returns without charge (R40) -/

/-- A report after the returns without charge of the reports with some numbers (R40, R45). -/
def returned (clock : Nat) (deferred contended : Bool) (seqs : List Nat) (x : Report) : Report :=
  if x.seq ∈ seqs then
    { x with
      state := .queued, eligibleAt := if deferred then clock + 5 else clock
      contention := if contended then min (x.contention + seqs.count x.seq) 15 else x.contention }
  else x

/-- One return before the others. -/
theorem returned_cons (clock : Nat) (d c : Bool) (q : Nat) (seqs : List Nat) (x : Report) :
    returned clock d c seqs (if x.seq = q then
      { x with
        state := .queued, eligibleAt := if d then clock + 5 else clock
        contention := if c then saturatingSucc 15 x.contention else x.contention } else x) =
    returned clock d c (q :: seqs) x := by
  by_cases first : x.seq = q
  · subst first
    by_cases again : x.seq ∈ seqs
    · cases c <;> simp [returned, again, saturatingSucc]
      omega
    · cases c <;> simp [returned, again, saturatingSucc]
      simp [List.count_eq_zero.2 again]
  · have count : (q :: seqs).count x.seq = seqs.count x.seq := List.count_cons_of_ne (Ne.symm first)
    simp [returned, first, count]

/-- The queue with each of its reports changed. -/
def mapReports (g : Report → Report) (s : State) : State :=
  { s with queue := { s.queue with reports := s.queue.reports.map g } }

/-- While the call engine is not in CE_IDLE, returns without charge change the reports returned and decide the head (R38, R40). -/
theorem returnsUncharged_eq (d c : Bool) : ∀ (l : List BatchEntry) (s : State), s.call.state ≠ .idle →
    l.foldl (fun t e => returnUncharged d c e.seq t) s =
      if l = [] then s else headDecided (mapReports (returned s.clock d c (l.map (·.seq))) s)
  | [], s, _ => rfl
  | [e], s, engaged => by
    have one (x : Report) := returned_cons s.clock d c e.seq [] x
    simp only [returned, List.not_mem_nil, if_false] at one
    rw [List.foldl_cons, List.foldl_nil, returnUncharged, decideHead_engaged (by exact engaged)]
    simp only [State.setReport, mapReports, List.map_cons, List.map_nil, one]
    rfl
  | e :: e' :: l, s, engaged => by
    rw [List.foldl_cons, returnUncharged, decideHead_engaged (by exact engaged),
      returnsUncharged_eq d c (e' :: l) _ (by exact engaged)]
    simp only [reduceCtorEq, if_false]
    have reports : mapReports (returned s.clock d c ((e :: e' :: l).map (·.seq))) s =
        mapReports (returned s.clock d c ((e' :: l).map (·.seq))) (s.setReport e.seq fun r =>
          { r with
            state := .queued, eligibleAt := if d then s.clock + 5 else s.clock
            contention := if c then saturatingSucc 15 r.contention else r.contention }) := by
      simp only [mapReports, State.setReport, List.map_map]
      congr 2
      refine List.map_congr_left fun x _ => ?_
      exact (returned_cons s.clock d c e.seq _ x).symm
    rw [reports]
    rfl

/-! ### Reports taken into a call in progress (R119, R120) -/

/-- A call that has taken a report into its batch, with the reports pushed out of it returned without charge. -/
def taking (q : Nat) (batch : List BatchEntry) (out : List Nat) (head : Option Nat) (s : State) : State :=
  { s with
    call := { s.call with batch := batch }
    queue := { s.queue with head := head, reports := s.queue.reports.map fun x =>
      if x.seq ∈ out then { x with state := .queued, eligibleAt := s.clock }
      else if x.seq = q then { x with state := .inCall } else x } }

/-- The report after it is taken in, and returned if it is itself pushed out. -/
theorem returned_takenIn (clock : Nat) (q : Nat) (out : List Nat) (x : Report) :
    returned clock false false out (if x.seq = q then { x with state := .inCall } else x) =
      if x.seq ∈ out then { x with state := .queued, eligibleAt := clock }
      else if x.seq = q then { x with state := .inCall } else x := by
  by_cases h : x.seq = q <;> by_cases o : x.seq ∈ out <;> simp_all [returned]

theorem takeIntoCall_eq (s : State) (q : Nat) (batch : List BatchEntry) :
    takeIntoCall q (s.setCall fun c => { c with batch := batch }) = taking q batch [] s.queue.head s := by
  simp only [taking, List.not_mem_nil, if_false]
  rfl

theorem mapReports_taking (s : State) (q : Nat) (batch : List BatchEntry) (out : List Nat) (head : Option Nat) :
    mapReports (returned s.clock false false out) (taking q batch [] head s) = taking q batch out head s := by
  simp only [taking, mapReports, List.map_map, Function.comp_def, List.not_mem_nil, if_false, returned_takenIn]

/-- An inserted report, and the entry it pushes out (R119). -/
theorem insertReport_eq {s : State} (engaged : s.call.state ≠ .idle) (q : Nat) :
    let batch := insertEntry s.call.inFlight ⟨q, 0⟩ s.call.batch
    let out := (batch.drop 4).map (·.seq)
    insertReport q s = taking q (batch.take 4) out (taking q (batch.take 4) out none s).firstEligible s := by
  intro batch out
  have returns : (batch.drop 4).foldl (fun t e => returnUncharged false false e.seq t) (taking q (batch.take 4) [] s.queue.head s) =
      if batch.drop 4 = [] then taking q (batch.take 4) [] s.queue.head s
      else headDecided (taking q (batch.take 4) out s.queue.head s) := by
    rw [returnsUncharged_eq false false _ _ (by exact engaged), ← mapReports_taking s q _ out]
    rfl
  have folded : insertReport q s = decideHead ((batch.drop 4).foldl (fun t e => returnUncharged false false e.seq t)
      (taking q (batch.take 4) [] s.queue.head s)) := by
    rw [← takeIntoCall_eq]; rfl
  rw [folded, returns]
  split
  · rename_i nothing
    have none : out = [] := by simp only [out, nothing, List.map_nil]
    rw [none]
    exact decideHead_engaged (by exact engaged)
  · exact decideHead_engaged (by exact engaged)

/-- An appended report (R120). -/
theorem appendReport_eq {s : State} (engaged : s.call.state ≠ .idle) (q : Nat) :
    appendReport q s = taking q (s.call.batch ++ [⟨q, 0⟩]) []
      (taking q (s.call.batch ++ [⟨q, 0⟩]) [] none s).firstEligible s := by
  have taken : appendReport q s = decideHead (taking q (s.call.batch ++ [⟨q, 0⟩]) [] s.queue.head s) := by
    rw [← takeIntoCall_eq]; rfl
  rw [taken]
  exact decideHead_engaged (by exact engaged)

end Sys2Proof.Machine
end


section
/-! The moves of the report queue and the call: everything a command does is a chain of them, and what each move keeps, every step
keeps. -/

namespace Sys2Proof.Machine

/-- A call that goes on: it stays out of CE_IDLE, with its line, its destination and the reports of its batch, and is paused from no
other state than before unless from one a call can be paused from (R112). -/
structure CallGoesOn (c d : Call) : Prop where
  engaged : c.state ≠ .idle
  stays : d.state ≠ .idle
  line : d.line = c.line
  dest : d.dest = c.dest
  batch : d.batch.map (·.seq) = c.batch.map (·.seq)
  pause : ∀ p, d.pause = some p → p.from_.pausable = true ∨ ∃ q, c.pause = some q ∧ p.from_ = q.from_

/-- One move of the queue, the call or the access controller, with what the model has made sure of before it. -/
inductive Move (s : State) : State → Prop
  /-- Neither the queue nor the call, the access state or the settings change. -/
  | aside {t : State} (queue : t.queue = s.queue) (call : t.call = s.call) (access : t.access.state = s.access.state)
      (settings : t.settings = s.settings) : Move s t
  /-- The access controller leaves AC_IDLE only while the call engine is in CE_IDLE (R73, R87). -/
  | access (a : AccessState) (free : s.access.state ≠ .idle ∨ s.call.state = .idle ∨ a = .idle) : Move s (s.setAccess a)
  /-- The head, the overflow count and the overflow mark. -/
  | marks {q : Queue} (reports : q.reports = s.queue.reports) (counter : q.counter = s.queue.counter)
      (history : q.history = s.queue.history) : Move s { s with queue := q }
  /-- A report's standing; it goes IN_CALL only as one of the batch (R38). -/
  | standing (q : Nat) (f : Report → Report) (keeps : ∀ r, (f r).seq = r.seq ∧ (f r).matter = r.matter)
      (inCall : ∀ r, (f r).state = .inCall → r.state = .inCall ∨ q ∈ s.call.batch.map (·.seq)) : Move s (s.setReport q f)
  /-- An entry of the history (R48). -/
  | written (e : HistoryEntry) : Move s (writeHistory e s)
  /-- A number given to a report that is not entered (R28). -/
  | numbered : Move s (giveSeq s)
  /-- A report with a route entered among some of the queue's reports (R28, R32, R34, R35). -/
  | entered (m : Matter) (others : List Report) (sub : others.Sublist s.queue.reports)
      (room : others.length < 32 ∨ others.length < s.queue.reports.length)
      (route : s.settings.hasRoute m.cls = true) :
      Move s { s with queue := { s.queue with
        counter := nextSeq s.queue.newSeq, reports := insertInOrder (newReport s.queue.newSeq m s) others } }
  /-- Reports that leave the queue. -/
  | removed (rest : List Report) (sub : rest.Sublist s.queue.reports) :
      Move s { s with queue := { s.queue with reports := rest } }
  /-- The call goes on. -/
  | call (f : Call → Call) (on : CallGoesOn s.call (f s.call)) : Move s (s.setCall f)
  /-- A call leaves its pause for the state the pause left (R117). -/
  | resumed (p : PauseRecord) (engaged : s.call.state ≠ .idle) (pause : s.call.pause = some p) :
      Move s (s.setCall fun c => { c with state := p.from_, pause := none })
  /-- A report taken into the batch of a call in progress, those pushed out of it returned (R119, R120). -/
  | taken (q : Nat) (batch : List BatchEntry) (out : List Nat) (head : Option Nat) (engaged : s.call.state ≠ .idle)
      (few : batch.length ≤ 4) (mem : q ∈ batch.map (·.seq))
      (kept : ∀ p ∈ s.call.batch.map (·.seq), p ∈ batch.map (·.seq) ∨ p ∈ out) : Move s (taking q batch out head s)
  /-- The block in flight is acknowledged and its report leaves the queue (R105). -/
  | acked (e : BatchEntry) (rest : List BatchEntry) (left : List Report) (engaged : s.call.state ≠ .idle)
      (batch : s.call.batch = e :: rest) (sub : left.Sublist s.queue.reports)
      (gone : (∀ r ∈ left, r.seq ≠ e.seq) ∨ s.call.line = none ∨ s.call.dest = none) :
      Move s { s with call := ackedCall s.now s.call, queue := { s.queue with reports := left } }
  /-- The call engine leaves its call when no report of the batch is IN_CALL any more (R108). -/
  | left (returned : ∀ r ∈ s.queue.reports, r.state = .inCall → r.seq ∉ s.call.batch.map (·.seq)) :
      Move s (s.setCall fun _ => freshCall)
  /-- The call engine takes the grant for a report of the queue (R97, R98). -/
  | granted (c : Call) (r : Report) (idle : s.call.state = .idle) (mem : r ∈ s.queue.reports) (state : c.state ≠ .idle)
      (line : c.line.isSome) (dest : c.dest = s.settings.currentDest r) (few : c.batch.length ≤ 4)
      (pause : c.pause = none) : Move s { s with call := c, access := { s.access with state := .idle } }
  /-- A start leaves the queue, the call and the access controller as new (R49, R72, R122). -/
  | fresh {t : State} (queue : t.queue = freshQueue) (call : t.call = freshCall) (access : t.access.state = .idle) : Move s t

/-- A chain of moves. -/
abbrev Moves : State → State → Prop := Relation.ReflTransGen Move

theorem Move.one {s t : State} (h : Move s t) : Moves s t := .single h

/-- What every move keeps, a chain of moves keeps. -/
theorem Moves.keeps {P : State → Prop} (one : ∀ s t, Move s t → P s → P t) {s t : State} (h : Moves s t) (hs : P s) : P t := by
  induction h with
  | refl => exact hs
  | tail _ last ih => exact one _ _ last ih

/-! ### The queue's order, size and numbers (R28, R29, R34, R48) -/

section
variable {s : State}

/-- The queue is sound with some of its reports gone, and with anything changed besides numbers, matters and history. -/
theorem queueSound_of_sublist (h : s.queueSound) {t : State}
    (reports : (t.queue.reports.map fun r => (r.seq, r.matter)).Sublist (s.queue.reports.map fun r => (r.seq, r.matter)))
    (counter : t.queue.counter < 65536) (history : t.queue.history.length ≤ 64) : t.queueSound := by
  obtain ⟨length, distinct, numbers, -, order, -⟩ := h
  have seqs : (t.queue.reports.map (·.seq)).Sublist (s.queue.reports.map (·.seq)) := by
    simpa [Function.comp_def] using reports.map Prod.fst
  refine ⟨?_, distinct.sublist seqs, fun r mem => ?_, counter, ?_, history⟩
  · exact le_trans (by simpa using reports.length_le) length
  · obtain ⟨x, here, eq⟩ := List.mem_map.1 (seqs.subset (List.mem_map.2 ⟨r, mem, rfl⟩))
    exact eq ▸ numbers x here
  · have matters : (t.queue.reports.map (·.matter)).Sublist (s.queue.reports.map (·.matter)) := by
      simpa [Function.comp_def] using reports.map Prod.snd
    have sorted : (s.queue.reports.map (·.matter)).Pairwise fun a b => notAfter a b = true := List.pairwise_map.2 order
    exact List.pairwise_map.1 (sorted.sublist matters)

/-- A sound queue with a report entered under the next number, where there is room. -/
theorem queueSound_entered (h : s.queueSound) (m : Matter) {others : List Report} (sub : others.Sublist s.queue.reports)
    (room : others.length < 32) :
    State.queueSound { s with queue := { s.queue with
      counter := nextSeq s.queue.newSeq, reports := insertInOrder (newReport s.queue.newSeq m s) others } } := by
  obtain ⟨-, distinct, numbers, -, order, history⟩ := id h
  have perm := perm_insertInOrder (newReport s.queue.newSeq m s) others
  refine ⟨?_, (perm.map _).nodup_iff.2 (List.nodup_cons.2 ⟨?_, distinct.sublist (sub.map _)⟩), fun r mem => ?_,
    nextSeq_lt (newSeq_lt h), inOrder_insertInOrder _ _ (order.sublist sub), history⟩
  · rw [length_insertInOrder]; exact room
  · exact fun mem => newSeq_notMem h ((sub.map _).subset mem)
  · rcases mem_insertInOrder.1 mem with rfl | mem
    · exact newSeq_lt h
    · exact numbers r (sub.subset mem)

/-- A change of reports that keeps their numbers and matters. -/
theorem map_owed (l : List Report) (g : Report → Report) (keeps : ∀ r, (g r).seq = r.seq ∧ (g r).matter = r.matter) :
    (l.map g).map (fun r => (r.seq, r.matter)) = l.map fun r => (r.seq, r.matter) := by
  simp [Function.comp_def, keeps]

/-- The taking keeps the number and the matter of every report. -/
theorem taking_keeps (clock q : Nat) (out : List Nat) (x : Report) :
    let g : Report → Report := fun x => if x.seq ∈ out then { x with state := .queued, eligibleAt := clock }
      else if x.seq = q then { x with state := .inCall } else x
    (g x).seq = x.seq ∧ (g x).matter = x.matter := by
  dsimp only
  split_ifs <;> exact ⟨rfl, rfl⟩

theorem Move.queueSound {t : State} (h : Move s t) (sound : s.queueSound) : t.queueSound := by
  obtain ⟨length, -, -, counter, -, history⟩ := id sound
  have same {l : List Report} (sub : l.Sublist s.queue.reports) := sub.map fun r => (r.seq, r.matter)
  have mapped (g : Report → Report) (keeps : ∀ r, (g r).seq = r.seq ∧ (g r).matter = r.matter) :
      ((s.queue.reports.map g).map fun r => (r.seq, r.matter)).Sublist (s.queue.reports.map fun r => (r.seq, r.matter)) := by
    rw [map_owed _ g keeps]
  cases h with
  | aside queue => unfold State.queueSound; rw [queue]; exact sound
  | access | call | resumed | left | granted => exact sound
  | marks reports count hist =>
    exact queueSound_of_sublist sound (by rw [reports]) (by rw [count]; exact counter) (by rw [hist]; exact history)
  | standing q f keeps =>
    exact queueSound_of_sublist sound (mapped _ fun r => by split_ifs <;> simp [keeps]) counter history
  | written e => rw [writeHistory_eq]; exact queueSound_of_sublist sound (.refl _) counter (length_historyWith s e)
  | numbered => exact queueSound_of_sublist sound (.refl _) (nextSeq_lt (newSeq_lt sound)) history
  | entered m others sub room => exact queueSound_entered sound m sub (room.elim id fun less => by omega)
  | removed rest sub => exact queueSound_of_sublist sound (same sub) counter history
  | taken q batch out head => exact queueSound_of_sublist sound (mapped _ (taking_keeps s.clock q out)) counter history
  | acked e rest left _ _ sub => exact queueSound_of_sublist sound (same sub) counter history
  | fresh queue => unfold State.queueSound; rw [queue]; decide

/-! ### The call and its batch (R38, R44, R96, R98) -/

/-- A report of a class with a route has a destination (R44). -/
theorem isSome_currentDest {set : Settings} {r : Report} (route : set.hasRoute r.matter.cls = true) :
    (set.currentDest r).isSome := by
  unfold Settings.currentDest
  unfold Settings.hasRoute at route
  dsimp only
  split
  · exact route
  · split
    · rfl
    · exact route

theorem Move.callSound {t : State} (h : Move s t) (sound : s.callSound) : t.callSound := by
  obtain ⟨few, empty, inCall, engaged, pause, routes⟩ := id sound
  cases h with
  | aside queue call access settings =>
    unfold State.callSound; rw [queue, call, access, settings]; exact sound
  | access a free =>
    refine ⟨few, empty, inCall, fun busy => ?_, pause, routes⟩
    obtain ⟨line, dest, idle⟩ := engaged busy
    refine ⟨line, dest, ?_⟩
    rcases free with access | call | rfl
    · exact absurd idle access
    · exact absurd call busy
    · rfl
  | marks reports =>
    refine ⟨few, empty, ?_, engaged, pause, ?_⟩
    · rw [reports]; exact inCall
    · rw [reports]; exact routes
  | standing q f keeps into =>
    refine ⟨few, empty, fun r mem st => ?_, engaged, pause, fun r mem => ?_⟩
    · obtain ⟨x, here, rfl⟩ := List.mem_map.1 mem
      by_cases h : x.seq = q
      · rw [if_pos h] at st ⊢
        rw [(keeps x).1]
        rcases into x st with before | now
        · exact inCall x here before
        · exact h ▸ now
      · rw [if_neg h] at st ⊢
        exact inCall x here st
    · obtain ⟨x, here, rfl⟩ := List.mem_map.1 mem
      have matter : (if x.seq = q then f x else x).matter = x.matter := by split_ifs <;> simp [keeps]
      exact matter ▸ routes x here
  | written => exact sound
  | numbered => exact sound
  | entered m others sub room route =>
    refine ⟨few, empty, fun r mem st => ?_, engaged, pause, fun r mem => ?_⟩
    · rcases mem_insertInOrder.1 mem with rfl | mem
      · cases st
      · exact inCall r (sub.subset mem) st
    · rcases mem_insertInOrder.1 mem with rfl | mem
      · exact route
      · exact routes r (sub.subset mem)
  | removed rest sub =>
    exact ⟨few, empty, fun r mem => inCall r (sub.subset mem), engaged, pause, fun r mem => routes r (sub.subset mem)⟩
  | call f on =>
    have length : (f s.call).batch.length = s.call.batch.length := by simpa using congrArg List.length on.batch
    refine ⟨length.le.trans few, fun idle => absurd idle on.stays, fun r mem st => ?_, fun _ => ?_, fun p eq => ?_, routes⟩
    · exact on.batch ▸ inCall r mem st
    · have := engaged on.engaged
      simpa [State.setCall, on.line, on.dest] using this
    · rcases on.pause p eq with ok | ⟨q, before, same⟩
      · exact ok
      · exact same ▸ pause q before
  | resumed p busy paused =>
    have stays : p.from_ ≠ .idle := fun idle => by simpa [idle, CallState.pausable] using pause p paused
    exact ⟨few, fun idle => absurd idle stays, inCall, fun _ => engaged busy, fun p eq => (nomatch eq), routes⟩
  | taken q batch out head busy few' mem kept =>
    refine ⟨few', fun idle => absurd idle busy, fun r hr st => ?_, engaged, pause, fun r hr => ?_⟩
    all_goals obtain ⟨x, here, rfl⟩ := List.mem_map.1 hr
    · rw [(taking_keeps s.clock q out x).1]
      by_cases pushed : x.seq ∈ out
      · simp [pushed] at st
      · by_cases it : x.seq = q
        · exact it ▸ mem
        · rw [if_neg pushed, if_neg it] at st
          exact (kept _ (inCall x here st)).resolve_right pushed
    · rw [(taking_keeps s.clock q out x).2]
      exact routes x here
  | acked e rest left busy batch sub gone =>
    have tail : (ackedCall s.now s.call).batch = rest := by simp [ackedCall, batch]
    have stays : (ackedCall s.now s.call).state ≠ .idle := by unfold ackedCall; dsimp only; split_ifs <;> simp
    obtain ⟨line, dest, idle⟩ := engaged busy
    refine ⟨?_, fun h => absurd h stays, fun r mem st => ?_, fun _ => ⟨line, dest, idle⟩, pause,
      fun r mem => routes r (sub.subset mem)⟩
    · rw [batch] at few
      exact tail ▸ (Nat.le_succ _).trans few
    · have old := inCall r (sub.subset mem) st
      rw [batch, List.map_cons, List.mem_cons] at old
      rcases gone with other | noLine | noDest
      · exact tail ▸ old.resolve_left (other r mem)
      · simp [noLine] at line
      · simp [noDest] at dest
  | left returned =>
    exact ⟨Nat.zero_le 4, fun _ => rfl, fun r mem st => absurd (inCall r mem st) (returned r mem st), fun h => absurd rfl h,
      fun p eq => (nomatch eq), routes⟩
  | granted c r idle mem state line dest few' none =>
    refine ⟨few', fun h => absurd h state, fun x mem' st => ?_, fun _ => ⟨line, ?_, rfl⟩, fun p eq => ?_, routes⟩
    · have := inCall x mem' st
      rw [empty idle] at this
      cases this
    · exact dest ▸ isSome_currentDest (routes r mem)
    · cases none.symm.trans eq
  | fresh queue call access =>
    unfold State.callSound; rw [queue, call, access]
    exact ⟨Nat.zero_le 4, fun _ => rfl, fun r mem => (nomatch mem), fun h => absurd rfl h, fun p eq => (nomatch eq),
      fun r mem => (nomatch mem)⟩

end

end Sys2Proof.Machine
end


section
/-! The line units, the access controller, the report queue and the trouble unit move by move. -/

namespace Sys2Proof.Machine

/-! ### The line units, which leave the queue, the call and the access context alone -/

section
variable (s : State)

theorem access_requestTone (l : LineNo) (y : Sym) (d : Nat) : (requestTone l y d s).access = s.access := by
  obtain ⟨_, h⟩ | ⟨_, _, h⟩ | ⟨_, _, h⟩ := requestTone_cases s l y d <;>
    exact (congrArg State.access h).trans rfl

theorem access_releaseLine (b : Holder) (k : ReleaseKind) (l : LineNo) : (releaseLine b k l s).access = s.access := by
  obtain h | ⟨_, _, _, h⟩ | ⟨_, _, _, h⟩ | ⟨_, _, _, h⟩ := releaseLine_cases s b k l <;>
    exact (congrArg State.access h).trans rfl

theorem access_discardStream (l : LineNo) : (discardStream l s).access = s.access := by
  unfold discardStream raiseGarbled
  split
  · rfl
  · split <;> rfl

theorem access_seizeLine (check : Bool) (l : LineNo) : (seizeLine check l s).access = s.access := access_discardStream s l

end

section
variable {s t : State}

/-- A calm change that leaves the access state is one move. -/
theorem Calm.move (h : Calm s t) (access : t.access = s.access) : Move s t :=
  .aside h.queue h.call (by rw [access]) h.kept.settings

theorem Calm.moves (h : Calm s t) (access : t.access = s.access) : Moves s t := (h.move access).one

/-- The access controller may leave AC_IDLE, or has left it. -/
def MayAcquire (s : State) : Prop := s.access.state ≠ .idle ∨ s.call.state = .idle

theorem MayAcquire.of_state {a : AccessState} (h : s.access.state = a) (busy : a ≠ .idle) : MayAcquire s :=
  .inl (h ▸ busy)

theorem MayAcquire.of_calm (h : MayAcquire s) (calm : Calm s t) (access : t.access = s.access) : MayAcquire t := by
  unfold MayAcquire; rw [access, calm.call]; exact h

end

section
variable (s : State)

theorem moves_setLine (l : LineNo) (f : Line → Line) : Moves s (s.setLine l f) := (calm_setLine s l f).moves rfl
theorem moves_setDecoder (l : LineNo) (f : Decoder → Decoder) : Moves s (s.setDecoder l f) :=
  (calm_setDecoder s l f).moves rfl
theorem moves_setChan (c : ChannelNo) (f : Channel → Channel) : Moves s (s.setChan c f) := Move.one (.aside rfl rfl rfl rfl)
theorem moves_setCond (c : Condition) (f : ConditionRecord → ConditionRecord) : Moves s (s.setCond c f) :=
  Move.one (.aside rfl rfl rfl rfl)
theorem moves_setPort (f : Port → Port) : Moves s (s.setPort f) := Move.one (.aside rfl rfl rfl rfl)
theorem moves_setHeard (f : List HeardEntry → List HeardEntry) : Moves s (s.setHeard f) := Move.one (.aside rfl rfl rfl rfl)
theorem moves_listener (x : Listener) : Moves s { s with listener := x } := Move.one (.aside rfl rfl rfl rfl)
theorem moves_trouble (x : TroubleUnit) : Moves s { s with trouble := x } := Move.one (.aside rfl rfl rfl rfl)
theorem moves_requestTone (l : LineNo) (y : Sym) (d : Nat) : Moves s (requestTone l y d s) :=
  (calm_requestTone s l y d).moves (access_requestTone s l y d)
theorem moves_releaseLine (b : Holder) (k : ReleaseKind) (l : LineNo) : Moves s (releaseLine b k l s) :=
  (calm_releaseLine s b k l).moves (access_releaseLine s b k l)
theorem moves_discardStream (l : LineNo) : Moves s (discardStream l s) :=
  (calm_discardStream s l).moves (access_discardStream s l)
theorem moves_dropToGuard (n : Bool) (l : LineNo) : Moves s (dropToGuard n l s) := (calm_dropToGuard s n l).moves rfl
theorem moves_silenceLine (l : LineNo) : Moves s (silenceLine l s) := (calm_silenceLine s l).moves rfl

/-! ### The access controller -/

theorem moves_setAccess (a : AccessState) (may : MayAcquire s) : Moves s (s.setAccess a) :=
  Move.one (.access a (or_assoc.1 (.inl may)))

theorem moves_setIdle : Moves s (s.setAccess .idle) := Move.one (.access _ (.inr (.inr rfl)))

theorem moves_raiseContention (q : Nat) : Moves s (raiseContention q s) :=
  Move.one (.standing q _ (fun _ => ⟨rfl, rfl⟩) fun _ st => .inl st)

theorem moves_raiseHeadContention : Moves s (raiseHeadContention s) := by
  unfold raiseHeadContention; split
  · exact moves_raiseContention s _
  · exact .refl

theorem moves_awaitLine (t0 : Nat) (may : MayAcquire s) : Moves s (awaitLine t0 s) := by
  obtain ⟨_, h⟩ | ⟨_, _, _, h⟩ | ⟨_, _, _, _, h⟩ := awaitLine_cases s t0 <;> rw [h]
  · exact moves_setIdle s
  · exact moves_setAccess s _ may
  · exact moves_setAccess s _ may

theorem moves_takeIdle (t0 : Nat) (l : LineNo) (may : MayAcquire s) : Moves s (takeIdle t0 l s) := by
  have seized := calm_seizeLine s true l
  have access := access_seizeLine s true l
  have moved : Moves s (moveCursor l (seizeLine true l s)) :=
    (seized.moves access).tail (.aside rfl rfl rfl rfl)
  exact moved.trans (moves_setAccess _ _ (may.of_calm seized access : MayAcquire (seizeLine true l s)))

theorem moves_chooseLine (t0 : Nat) (may : MayAcquire s) : Moves s (chooseLine t0 s) := by
  have awaited := moves_awaitLine s t0 may
  obtain h | ⟨t, l, h, base, due, st, _, _, e⟩ := chooseLine_cases s t0
  · rw [h]; exact awaited
  · rw [e]; exact awaited.trans (moves_takeIdle _ _ _ (.of_state st (by simp)))

theorem moves_seizeChosen : Moves s (seizeChosen s) := by
  unfold seizeChosen; split
  · rename_i st
    have may : MayAcquire s := .of_state st (by simp)
    split
    · exact moves_takeIdle s _ _ may
    · exact moves_chooseLine s _ may
  · exact .refl

theorem moves_seizeIfDue : Moves s (seizeIfDue s) := by
  unfold seizeIfDue; split
  · split
    · exact moves_seizeChosen s
    · exact .refl
  · exact .refl

theorem moves_startAcquisition : Moves s (startAcquisition s) := by
  unfold startAcquisition; split
  · rename_i h; exact moves_chooseLine s _ (.inr h.2.1)
  · exact .refl

theorem moves_releaseAndChoose (t0 : Nat) (l : LineNo) (may : MayAcquire s) : Moves s (releaseAndChoose t0 l s) :=
  (moves_releaseLine s _ _ _).trans
    (moves_chooseLine _ _ (may.of_calm (calm_releaseLine s _ _ _) (access_releaseLine s _ _ _)))

theorem moves_releaseAndIdle (l : LineNo) : Moves s (releaseAndIdle l s) :=
  (moves_releaseLine s _ _ _).trans (moves_setIdle _)

theorem moves_beginDemand (t0 : Nat) (l : LineNo) (rec : PreemptRecord) (c : ReportClass) (may : MayAcquire s) :
    Moves s (beginDemand t0 l rec c s) :=
  (moves_requestTone s _ _ _).trans
    (moves_setAccess _ _ (may.of_calm (calm_requestTone s _ _ _) (access_requestTone s _ _ _)))

theorem moves_preemptSeize (t0 : Nat) (l : LineNo) (c : ReportClass) (may : MayAcquire s) :
    Moves s (preemptSeize t0 l c s) := by
  have seized := calm_seizeLine s false l
  have access := access_seizeLine s false l
  unfold preemptSeize; split
  · have moved : Moves s (moveCursor l (seizeLine false l s)) := (seized.moves access).tail (.aside rfl rfl rfl rfl)
    exact moved.trans (moves_beginDemand _ _ _ _ _ (may.of_calm seized access : MayAcquire (seizeLine false l s)))
  · exact moves_chooseLine s _ may

theorem moves_preemptionTest : Moves s (preemptionTest s) := by
  unfold preemptionTest; split
  · rename_i st _
    split
    · split
      · exact moves_preemptSeize s _ _ _ (.of_state st (by simp))
      · exact .refl
    · exact .refl
  · exact .refl

theorem moves_laterPreemptionTest : Moves s (laterPreemptionTest s) := by
  unfold laterPreemptionTest; split
  · exact moves_preemptionTest s
  · exact .refl

theorem moves_headLost : Moves s (headLost s) := by
  unfold headLost; split
  · exact .refl
  · exact moves_setIdle s
  · exact moves_setIdle s
  all_goals exact moves_releaseAndIdle s _

theorem moves_headReplaced (r : Report) : Moves s (headReplaced r s) := by
  unfold headReplaced; split
  · exact moves_startAcquisition s
  · rename_i st
    split
    · exact moves_chooseLine s _ (.of_state st (by simp))
    · exact moves_laterPreemptionTest s
  · rename_i st
    have may : MayAcquire s := .of_state st (by simp)
    split
    · exact (moves_setAccess s _ may).trans (moves_seizeIfDue _)
    · exact moves_chooseLine s _ may
  · exact .refl
  · rename_i st
    split
    · split
      · exact .refl
      · exact moves_releaseAndChoose s _ _ (.of_state st (by simp))
    · exact .refl
  · rename_i st
    have may : MayAcquire s := .of_state st (by simp)
    split
    · exact moves_setAccess s _ may
    · exact moves_releaseAndChoose s _ _ may

theorem moves_accessHeadChange : Moves s (accessHeadChange s) := by
  unfold accessHeadChange; split
  · exact moves_headLost s
  · exact moves_headReplaced s _

theorem moves_accessLineNotice (l : LineNo) : Moves s (accessLineNotice l s) := by
  unfold accessLineNotice; split
  · rename_i st
    split
    · split
      · exact moves_chooseLine s _ (.of_state st (by simp))
      · exact moves_laterPreemptionTest s
    · exact .refl
  · rename_i st
    split
    · exact moves_chooseLine s _ (.of_state st (by simp))
    · exact .refl
  · rename_i st
    split
    · exact moves_releaseAndChoose s _ _ (.of_state st (by simp))
    · exact .refl
  all_goals exact .refl

theorem moves_accessOccupantNotice (l : LineNo) : Moves s (accessOccupantNotice l s) := by
  unfold accessOccupantNotice; split
  · exact moves_laterPreemptionTest s
  · exact .refl

theorem moves_setOccupant (l : LineNo) (c : ReportClass) : Moves s (setOccupant l c s) := by
  unfold setOccupant; split
  · split
    · exact .refl
    · exact (moves_setLine s _ _).trans (moves_accessOccupantNotice _ _)
  · exact .refl

theorem moves_accessCheckResult (res : CheckResult) : Moves s (accessCheckResult res s) := by
  unfold accessCheckResult; split
  · rename_i st
    have may : MayAcquire s := .of_state st (by simp)
    have raised : MayAcquire (raiseHeadContention s) := by
      unfold raiseHeadContention; split <;> exact may
    split
    · exact (moves_raiseHeadContention s).trans (moves_chooseLine _ _ raised)
    · exact (moves_raiseHeadContention s).trans (moves_chooseLine _ _ raised)
    · exact moves_chooseLine s _ may
    · unfold checkClear; split
      · exact moves_releaseAndIdle s _
      · split
        · exact moves_setAccess s _ may
        · exact moves_releaseAndChoose s _ _ may
  · exact .refl

/-! ### The head and the reports -/

theorem moves_decideHead : Moves s (decideHead s) := by
  have decided : Moves s { s with queue := { s.queue with head := s.firstEligible } } := Move.one (.marks rfl rfl rfl)
  unfold decideHead; split
  · exact .refl
  · dsimp only; split
    · exact decided.trans (moves_accessHeadChange _)
    · exact decided

/-- A report's standing changed, out of the call if it is changed in that, and the head decided anew. -/
theorem moves_standing (q : Nat) (f : Report → Report) (keeps : ∀ r, (f r).seq = r.seq ∧ (f r).matter = r.matter)
    (inCall : ∀ r, (f r).state = .inCall → r.state = .inCall) : Moves s (decideHead (s.setReport q f)) :=
  (Move.one (.standing q f keeps fun r st => .inl (inCall r st))).trans (moves_decideHead _)

theorem moves_returnUncharged (d c : Bool) (q : Nat) : Moves s (returnUncharged d c q s) :=
  moves_standing s q _ (fun _ => ⟨rfl, rfl⟩) (by simp)

theorem moves_returnsUncharged (d c : Bool) : ∀ (l : List BatchEntry) (s : State),
    Moves s (l.foldl (fun t e => returnUncharged d c e.seq t) s)
  | [], _ => .refl
  | e :: l, s => (moves_returnUncharged s d c e.seq).trans (moves_returnsUncharged d c l _)

/-! ### The end of a call (R108) -/

/-- A call that is not in CE_IDLE goes on through a change of other fields than its state, line, destination, batch and pause. -/
theorem CallGoesOn.of_state {c d : Call} (engaged : c.state ≠ .idle) (state : d.state ≠ .idle) (line : d.line = c.line)
    (dest : d.dest = c.dest) (batch : d.batch = c.batch) (pause : d.pause = c.pause) : CallGoesOn c d :=
  ⟨engaged, state, line, dest, by rw [batch], fun p e => .inr ⟨p, pause ▸ e, rfl⟩⟩

theorem moves_beginClosing (engaged : s.call.state ≠ .idle) : Moves s (beginClosing s) := by
  have closed : Moves s (s.setCall fun c => { c with state := .closing }) :=
    Move.one (.call _ (.of_state engaged (by simp) rfl rfl rfl rfl))
  unfold beginClosing; dsimp only; split
  · exact closed.trans (moves_releaseLine _ _ _ _)
  · exact closed

theorem closing_beginClosing : (beginClosing s).call.state = .closing := by
  unfold beginClosing; dsimp only; split
  · rw [(calm_releaseLine _ _ _ _).call]; rfl
  · rfl

theorem batch_beginClosing : (beginClosing s).call.batch = s.call.batch := by
  unfold beginClosing; dsimp only; split
  · rw [(calm_releaseLine _ _ _ _).call]; rfl
  · rfl

theorem moves_leaveCall (returned : ∀ r ∈ s.queue.reports, r.state = .inCall → r.seq ∉ s.call.batch.map (·.seq)) :
    Moves s (leaveCall s) :=
  (Move.one (.left returned)).trans (moves_startAcquisition _)

/-- The batch returned one report after another in CLOSING, and the call left (R108, R109). -/
theorem moves_returnsAndLeave (f : BatchEntry → State → State)
    (one : ∀ e (s : State), s.call.state = .closing → Bookkept s (f e s))
    (back : ∀ e (s : State), s.call.state = .closing → ∀ r ∈ (f e s).queue.reports, r.state = .inCall → r.seq ≠ e.seq)
    (moves : ∀ e s, Moves s (f e s)) (closing : s.call.state = .closing) :
    Moves s (leaveCall (s.call.batch.foldl (fun t e => f e t) s)) := by
  have fold : ∀ (l : List BatchEntry) (u : State), Moves u (l.foldl (fun t e => f e t) u) := by
    intro l
    induction l with
    | nil => exact fun _ => .refl
    | cons e l ih => exact fun u => (moves e u).trans (ih _)
  refine (fold _ s).trans (moves_leaveCall _ ?_)
  rw [(bookkept_foldl f one s.call.batch s closing).call]
  exact notInCall_foldl f one back s.call.batch s closing

theorem moves_endUncharged (d c : Bool) (engaged : s.call.state ≠ .idle) : Moves s (endUncharged d c s) := by
  have returns := moves_returnsAndLeave (beginClosing s) (fun e t => returnUncharged d c e.seq t)
    (fun e t => bookkept_returnUncharged t d c e.seq) (fun e t _ => notInCall_takenOut t e.seq _ (by simp))
    (fun e t => moves_returnUncharged t d c e.seq) (closing_beginClosing s)
  rw [batch_beginClosing] at returns
  exact (moves_beginClosing s engaged).trans returns

/-! ### A report handed (R28, R32 to R36, R118 to R121) -/

theorem mem_insertEntry (inFlight : Bool) (e x : BatchEntry) (l : List BatchEntry) :
    x ∈ insertEntry inFlight e l ↔ x = e ∨ x ∈ l := by
  cases l with
  | nil => simp [insertEntry]
  | cons b rest =>
    cases inFlight
    · simp [insertEntry]
    · simp [insertEntry, or_left_comm]

theorem mem_take_insertEntry (inFlight : Bool) (e : BatchEntry) (l : List BatchEntry) :
    e ∈ (insertEntry inFlight e l).take 4 := by
  cases l with
  | nil => simp [insertEntry]
  | cons b rest => cases inFlight <;> simp [insertEntry]

theorem moves_insertReport (q : Nat) (engaged : s.call.state ≠ .idle) : Moves s (insertReport q s) := by
  rw [insertReport_eq engaged]
  refine Move.one (.taken q _ _ _ engaged (by simp) ?_ fun p mem => ?_)
  · exact List.mem_map.2 ⟨_, mem_take_insertEntry _ _ _, rfl⟩
  · obtain ⟨x, here, rfl⟩ := List.mem_map.1 mem
    have all : x ∈ insertEntry s.call.inFlight ⟨q, 0⟩ s.call.batch := (mem_insertEntry _ _ _ _).2 (.inr here)
    rw [← List.take_append_drop 4 (insertEntry s.call.inFlight ⟨q, 0⟩ s.call.batch), List.mem_append] at all
    exact all.imp (fun h => List.mem_map.2 ⟨x, h, rfl⟩) (fun h => List.mem_map.2 ⟨x, h, rfl⟩)

theorem moves_appendReport (q : Nat) (engaged : s.call.state ≠ .idle) (few : s.call.batch.length < 4) :
    Moves s (appendReport q s) := by
  rw [appendReport_eq engaged]
  exact Move.one (.taken q _ _ _ engaged (by simpa using few) (by simp) fun p mem => .inl (by simp [List.mem_map.1 mem]))

theorem engaged_of_inCall {s : State} (h : s.inCall = true) : s.call.state ≠ .idle := by
  intro idle; simp [State.inCall, idle] at h

theorem moves_offerReport (r : Report) : Moves s (offerReport r s) := by
  cases offered : s.inCall with
  | false =>
    have same : offerReport r s = s := by simp [offerReport, offered]
    rw [same]
  | true =>
    have engaged := engaged_of_inCall offered
    obtain h | ⟨_, _, _, _, h⟩ | ⟨_, _, _, _, h⟩ | ⟨_, _, _, _, few, h⟩ := offerReport_cases s r <;> rw [h]
    · exact moves_insertReport s _ engaged
    · unfold suspendCall; split
      · exact Move.one (.call _ (.of_state engaged engaged rfl rfl rfl rfl))
      · exact moves_endUncharged s _ _ engaged
    · exact moves_appendReport s _ engaged few

/-- A report entered among some of the queue's reports, an entry written to the history with it or not. -/
theorem moves_placed (m : Matter) (others : List Report) (history : List HistoryEntry)
    (sub : others.Sublist s.queue.reports)
    (room : others.length < 32 ∨ others.length < s.queue.reports.length) (route : s.settings.hasRoute m.cls = true)
    (written : history = s.queue.history ∨ ∃ e, history = (writeHistory e s).queue.history) :
    Moves s (placeReport (newReport s.queue.newSeq m s) { s with queue := { s.queue with
      counter := nextSeq s.queue.newSeq, reports := others, history := history } }) := by
  have entered := Move.one (.entered m others sub room route)
  have put : Moves s { s with queue := { s.queue with
      counter := nextSeq s.queue.newSeq, history := history
      reports := insertInOrder (newReport s.queue.newSeq m s) others } } := by
    rcases written with rfl | ⟨e, rfl⟩
    · exact entered
    · exact entered.tail (.written e)
  exact (put.trans (moves_decideHead _)).trans (moves_offerReport _ _)

theorem victim_mem {c : ReportClass} {l : List Report} {v : Report} (h : victim c l = some v) : v ∈ l := by
  unfold victim at h
  dsimp only at h
  split_ifs at h
  exact (List.mem_filter.1 (List.mem_filter.1 (List.mem_of_getLast? h)).1).1

theorem moves_enterReport (m : Matter) : Moves s (enterReport m s).1 := by
  have given : Moves s (giveSeq s) := Move.one .numbered
  obtain ⟨_, h⟩ | ⟨_, _, _, h⟩ | ⟨route, _, room, h⟩ | ⟨route, _, _, v, isVictim, h⟩ | ⟨_, _, _, _, h⟩ :=
    enterReport_cases s m <;> rw [h]
  · exact given.tail (.written _)
  · exact given.tail (.written _)
  · exact moves_placed s m _ _ (.refl _) (.inl room) route (.inl rfl)
  · refine moves_placed s m (s.queue.reports.filter fun r => r.seq ≠ v.seq) _ List.filter_sublist (.inr ?_) route
      (.inr ⟨_, rfl⟩)
    exact List.length_filter_lt_length_iff_exists.2 ⟨v, victim_mem isVictim, by simp⟩
  · exact (given.tail (.written _)).tail (.marks rfl rfl rfl)

end

end Sys2Proof.Machine
end


section
/-! The trouble unit, the call engine, the peer listener, the channels and the port move by move, and with them every step. -/

namespace Sys2Proof.Machine

section
variable (s : State)

/-! ### The trouble unit (R36, R37, R138 to R144) -/

theorem moves_makePending (c : Condition) (m : Matter) : Moves s (makePending c m s) := Move.one (.aside rfl rfl rfl rfl)

theorem moves_handTrouble (c : Condition) (m : Matter) : Moves s (handTrouble c m s).1 := by
  have h := moves_enterReport s m
  unfold handTrouble
  split <;> rename_i e <;> rw [e] at h
  · exact h.trans (moves_makePending _ _ _)
  · exact h

theorem moves_noticeOnly (c : Condition) (b : Bool) : Moves s (noticeOnly c b s).1 := by
  unfold noticeOnly; split
  · exact .refl
  · dsimp only; split
    · exact (moves_setCond s _ _).trans (moves_handTrouble _ _ _)
    · exact moves_setCond s _ _

theorem moves_overflowBegins (b : Bool) : Moves s (overflowBegins b s) := by
  unfold overflowBegins; split
  · exact moves_noticeOnly s _ _
  · exact .refl

theorem moves_tellTrouble (c : Condition) (b : Bool) : Moves s (tellTrouble c b s) :=
  (moves_noticeOnly s c b).trans (moves_overflowBegins _ _)

theorem moves_handReport (m : Matter) : Moves s (handReport m s) := by
  have h := moves_enterReport s m
  unfold handReport
  split <;> rename_i e <;> rw [e] at h
  · exact h.trans (moves_overflowBegins _ _)
  · exact h

theorem moves_handPending : ∀ (n : Nat) (s : State), Moves s (handPending n s)
  | 0, s => .refl
  | n + 1, s => by
    unfold handPending; split
    · exact .refl
    · rename_i p _
      have h := moves_enterReport s p.matter
      split <;> rename_i e <;> rw [e] at h
      · exact (h.trans (moves_makePending _ _ _)).trans (moves_overflowBegins _ _)
      · exact (h.trans (moves_setCond _ _ _)).trans (moves_handPending n _)

theorem moves_afterRemoval : Moves s (afterRemoval s) := by
  have unmarked : Moves s { s with queue := { s.queue with overflowMark := false } } := Move.one (.marks rfl rfl rfl)
  have told := unmarked.trans (moves_tellTrouble _ .queueOverflow false)
  unfold afterRemoval; dsimp only; split <;> split
  · exact told.trans (moves_handPending _ _)
  · exact moves_handPending _ _
  · exact told
  · exact .refl

/-- The queue without the reports of a number. -/
def withoutSeq (q : Nat) (s : State) : State :=
  { s with queue := { s.queue with reports := s.queue.reports.filter fun x => x.seq ≠ q } }

/-- What follows when a report has left the queue (R37, R39). -/
theorem moves_afterRemoving (r : Report) (f : Fate) : Moves (withoutSeq r.seq s) (removeReport r f s) :=
  ((Move.one (.written _)).trans (moves_decideHead _)).trans (moves_afterRemoval _)

theorem moves_removeReport (r : Report) (f : Fate) : Moves s (removeReport r f s) :=
  (Move.one (.removed _ List.filter_sublist)).trans (moves_afterRemoving s r f)

theorem moves_callSucceeded : Moves s (callSucceeded s) := by
  unfold callSucceeded; split
  · exact .refl
  · exact moves_tellTrouble s _ _

theorem moves_returnCharged (q : Nat) : Moves s (returnCharged q s) := by
  obtain ⟨_, h⟩ | ⟨r, _, _, h⟩ | ⟨r, _, _, h⟩ := returnCharged_cases s q <;> rw [h]
  · exact moves_standing s q _ (fun _ => ⟨rfl, rfl⟩) (by simp)
  · refine Relation.ReflTransGen.trans ?_ (moves_tellTrouble _ _ _)
    exact moves_standing s q _ (fun _ => ⟨rfl, rfl⟩) (by simp)

/-! ### The end of a call (R108, R109) -/

theorem moves_endCharged (engaged : s.call.state ≠ .idle) : Moves s (endCharged s) := by
  have returns := moves_returnsAndLeave (beginClosing s) (fun e t => returnCharged e.seq t)
    (fun e t => bookkept_returnCharged t e.seq) (fun e t closing => notInCall_returnCharged t closing e.seq)
    (fun e t => moves_returnCharged t e.seq) (closing_beginClosing s)
  rw [batch_beginClosing] at returns
  exact (moves_beginClosing s engaged).trans returns

theorem moves_endCall (cause : EndCause) (engaged : s.call.state ≠ .idle) : Moves s (endCall cause s) := by
  cases cause
  case yielded | intruded | suspended | maintAbort => exact moves_endUncharged s _ _ engaged
  case noDialTone | destBusy | noAnswer | noAck | loopLost => exact moves_endCharged s engaged

/-! ### Acknowledgement (R105, R107) -/

/-- A release of a line does not read the queue. -/
theorem releaseLine_withQueue (b : Holder) (k : ReleaseKind) (l : LineNo) (q : Queue) :
    { releaseLine b k l s with queue := q } = releaseLine b k l { s with queue := q } := by
  unfold releaseLine
  by_cases held : (s.line l).holder = some b
  · have held' : (State.line { s with queue := q } l).holder = some b := held
    rw [if_pos held, if_pos held']
    have line : State.line { s with queue := q } l = s.line l := rfl
    rw [line]
    cases (s.line l).state <;> cases k <;> rfl
  · have held' : ¬ (State.line { s with queue := q } l).holder = some b := held
    rw [if_neg held, if_neg held']

theorem beginClosing_withQueue (q : Queue) : { beginClosing s with queue := q } = beginClosing { s with queue := q } := by
  have call : State.call { s with queue := q } = s.call := rfl
  unfold beginClosing
  rw [call]
  cases s.call.line with
  | none => rfl
  | some l => exact releaseLine_withQueue _ _ _ _ _

theorem queue_beginClosing : (beginClosing s).queue = s.queue := by
  unfold beginClosing; dsimp only; split
  · exact (calm_releaseLine _ _ _ _).queue
  · rfl

/-- The block in flight is acknowledged: its report leaves the queue, or there is none to leave it. -/
theorem moves_acked {e : BatchEntry} {rest : List BatchEntry} (engaged : s.call.state ≠ .idle)
    (batch : s.call.batch = e :: rest) : Moves s (withoutSeq e.seq (s.setCall (ackedCall s.now))) :=
  Move.one (.acked e rest _ engaged batch List.filter_sublist (.inl fun r mem => by simpa using (List.mem_filter.1 mem).2))

/-- The delivery of the block in flight, its line released first or not. -/
theorem moves_deliver {e : BatchEntry} {rest : List BatchEntry} (engaged : s.call.state ≠ .idle)
    (batch : s.call.batch = e :: rest) (release : State → State) (moves : ∀ u, u.call.state ≠ .idle → Moves u (release u))
    (queue : ∀ u, (release u).queue = u.queue) (commutes : ∀ u q, { release u with queue := q } = release { u with queue := q }) :
    Moves s (deliver e.seq s.call.line s.call.dest (release (s.setCall (ackedCall s.now)))) := by
  have stays : (s.setCall (ackedCall s.now)).call.state ≠ .idle := by
    simp only [State.setCall_call, ackedCall]; split_ifs <;> simp
  have report : (release (s.setCall (ackedCall s.now))).report e.seq = s.report e.seq := by
    simp only [State.report, queue]; rfl
  unfold deliver
  rw [report]
  split
  · rename_i r l d found line dest
    have seq : r.seq = e.seq := (report_mem found).2
    have reordered : withoutSeq r.seq (release (s.setCall (ackedCall s.now))) =
        release (withoutSeq e.seq (s.setCall (ackedCall s.now))) := by
      simp only [withoutSeq, commutes, queue, seq]
    have gone := (moves_acked s engaged batch).trans (moves _ (by exact stays))
    rw [← reordered] at gone
    exact gone.trans (moves_afterRemoving _ _ _)
  · rename_i missing
    have acked : Moves s (s.setCall (ackedCall s.now)) := by
      refine Move.one (.acked e rest s.queue.reports engaged batch (.refl _) ?_)
      by_contra all
      push Not at all
      obtain ⟨⟨r, mem, seq⟩, line, dest⟩ := all
      obtain ⟨l, hl⟩ := Option.ne_none_iff_exists'.1 line
      obtain ⟨d, hd⟩ := Option.ne_none_iff_exists'.1 dest
      have here : (s.report e.seq).isSome := List.find?_isSome.2 ⟨r, mem, by simpa using seq⟩
      obtain ⟨x, hx⟩ := Option.isSome_iff_exists.1 here
      exact missing x l d hx hl hd
    exact acked.trans (moves _ stays)

theorem moves_countAck (engaged : s.call.state ≠ .idle) : Moves s (countAck s) := by
  unfold countAck
  split
  · exact .refl
  · rename_i e rest batch
    have closing : (beginClosing (s.setCall (ackedCall s.now))).call.state = .closing := closing_beginClosing _
    have delivered := moves_deliver s engaged batch beginClosing (fun u h => moves_beginClosing u h) queue_beginClosing
      beginClosing_withQueue
    have kept := bookkept_deliver (beginClosing (s.setCall (ackedCall s.now))) e.seq s.call.line s.call.dest closing
    dsimp only
    split_ifs with last suspended
    · have none : (deliver e.seq s.call.line s.call.dest (beginClosing (s.setCall (ackedCall s.now)))).call.batch = [] := by
        rw [kept.call, batch_beginClosing]
        simpa [ackedCall, batch] using last
      have ended := kept.andThen closing (bookkept_callSucceeded _)
      refine (delivered.trans (moves_callSucceeded _)).trans (moves_leaveCall _ fun r _ _ => ?_)
      rw [ended.call, ← kept.call, none]
      exact List.not_mem_nil
    · exact delivered.trans (moves_returnsAndLeave _ (fun e t => returnUncharged false false e.seq t)
        (fun e t => bookkept_returnUncharged t _ _ e.seq) (fun e t _ => notInCall_takenOut t e.seq _ (by simp))
        (fun e t => moves_returnUncharged t _ _ e.seq) (kept.closing closing))
    · exact moves_deliver s engaged batch id (fun u _ => .refl) (fun _ => rfl) (fun _ _ => rfl)

/-! ### The call engine's other acts -/

/-- A change of the call's timing alone. -/
theorem moves_timing (f : Call → Call) (engaged : s.call.state ≠ .idle) (state : (f s.call).state = s.call.state)
    (line : (f s.call).line = s.call.line) (dest : (f s.call).dest = s.call.dest) (batch : (f s.call).batch = s.call.batch)
    (pause : (f s.call).pause = s.call.pause) : Moves s (s.setCall f) :=
  Move.one (.call f (.of_state engaged (state ▸ engaged) line dest batch pause))

theorem moves_callTone (y : Sym) (d : Nat) : Moves s (callTone y d s) := by
  unfold callTone; split
  · exact moves_requestTone _ _ _ _
  · exact .refl

theorem moves_dialSymbol (engaged : s.call.state ≠ .idle) : Moves s (dialSymbol s) := by
  unfold dialSymbol; split
  · exact (moves_timing s _ engaged rfl rfl rfl rfl rfl).trans (moves_callTone _ _ _)
  · exact moves_timing s _ engaged rfl rfl rfl rfl rfl
  · exact Move.one (.call _ (.of_state engaged (by simp) rfl rfl rfl rfl))

theorem moves_startDialling (engaged : s.call.state ≠ .idle) : Moves s (startDialling s) :=
  (Move.one (.call _ (.of_state engaged (by simp) rfl rfl rfl rfl))).trans (moves_dialSymbol _ (by simp))

theorem seqs_countSend (l : List BatchEntry) : (countSend l).map (·.seq) = l.map (·.seq) := by
  cases l <;> rfl

theorem moves_sendSymbol (engaged : s.call.state ≠ .idle) : Moves s (sendSymbol s) := by
  unfold sendSymbol; split
  · exact (moves_timing s _ engaged rfl rfl rfl rfl rfl).trans (moves_callTone _ _ _)
  · exact Move.one (.call _ ⟨engaged, by simp, rfl, rfl, seqs_countSend _, fun p e => .inr ⟨p, e, rfl⟩⟩)

theorem moves_beginBlock (engaged : s.call.state ≠ .idle) : Moves s (beginBlock s) :=
  (Move.one (.call _ (.of_state engaged (by simp) rfl rfl rfl rfl))).trans (moves_sendSymbol _ (by simp))

theorem moves_pauseCall : Moves s (pauseCall s) := by
  have paused (engaged : s.call.state.pausable = true) : Moves s (s.setCall fun c =>
      { c with
        state := .paused, gapEnd := none, inPauseMark := false
        pause := some ⟨c.state, s.now + 1000, none, false⟩ }) := by
    have busy : s.call.state ≠ .idle := fun idle => by simp [idle, CallState.pausable] at engaged
    refine Move.one (.call _ ⟨busy, by simp, rfl, rfl, rfl, fun p e => .inl ?_⟩)
    cases e; exact engaged
  unfold pauseCall; split
  case h_6 st =>
    refine Move.one (.call _ ⟨by simp [st], by simp [st], rfl, rfl, rfl, fun p e => .inr ?_⟩)
    obtain ⟨q, before, rfl⟩ := Option.map_eq_some_iff.1 e
    exact ⟨q, before, rfl⟩
  case h_7 | h_8 => exact .refl
  all_goals rename_i st; exact paused (by rw [st]; rfl)

theorem moves_callLoopLoss : Moves s (callLoopLoss s) := by
  unfold callLoopLoss; split
  · rename_i h; exact moves_endCall s _ (engaged_of_inCall h)
  · exact .refl

theorem moves_takeHeldReport (h : HeldReport) : Moves s (takeHeldReport h s) := by
  unfold takeHeldReport; split
  · exact .refl
  · exact moves_pauseCall s
  · exact moves_callLoopLoss s

theorem moves_takeHeldReports : ∀ (l : List HeldReport) (s : State), Moves s (l.foldl (fun t h => takeHeldReport h t) s)
  | [], _ => .refl
  | h :: l, s => (moves_takeHeldReport s h).trans (moves_takeHeldReports l _)

/-- Reports of the batch go IN_CALL one after another (R38). -/
theorem moves_takeIntoCall : ∀ (l : List Nat) (s : State), (∀ q ∈ l, q ∈ s.call.batch.map (·.seq)) →
    Moves s (l.foldl (fun t q => takeIntoCall q t) s) ∧ (l.foldl (fun t q => takeIntoCall q t) s).call = s.call
  | [], _, _ => ⟨.refl, rfl⟩
  | q :: l, s, batch => by
    obtain ⟨moves, call⟩ := moves_takeIntoCall l (takeIntoCall q s) fun p mem => batch p (by simp [mem])
    have taken : Moves s (takeIntoCall q s) :=
      Move.one (.standing q _ (fun _ => ⟨rfl, rfl⟩) fun _ _ => .inr (batch q (by simp)))
    exact ⟨taken.trans moves, call⟩

theorem moves_takeGrant (l : LineNo) (r : Report) (passed : List HeldReport) (idle : s.call.state = .idle)
    (mem : r ∈ s.queue.reports) : Moves s (takeGrant l r passed s) := by
  let c : Call := { freshCall with state := .dialtoneWait, dialDeadline := some (s.now + 4000) }
  let s2 := (handLineToCall l (s.setCall fun _ => c)).setAccess .idle
  let dest := s2.settings.currentDest r
  let seqs := formBatch s2 r.seq dest l
  let s3 := s2.setCall fun c => { c with line := some l, dest := dest, batch := seqs.map fun q => ⟨q, 0⟩ }
  have few : (seqs.map fun q => (⟨q, 0⟩ : BatchEntry)).length ≤ 4 := by simp [seqs, formBatch]
  have granted : Moves s s3 :=
    (Move.one (.granted { c with line := some l, dest := dest, batch := seqs.map fun q => ⟨q, 0⟩ } r idle mem
      (by simp [c]) rfl rfl few rfl)).trans (moves_setLine _ l fun ln => { ln with holder := some .call })
  obtain ⟨into, call⟩ := moves_takeIntoCall seqs s3 fun q mem => by simpa [s3] using mem
  have decided := granted.trans (into.trans (moves_decideHead _))
  have engaged : (decideHead (seqs.foldl (fun t q => takeIntoCall q t) s3)).call.state ≠ .idle := by
    rw [(headOnly_decideHead _).call, call]; simp [s3, s2, c, handLineToCall]
  refine Relation.ReflTransGen.trans ?_ (moves_takeHeldReports passed _)
  split
  · exact decided.trans (moves_startDialling _ engaged)
  · exact decided

theorem moves_resumeCall (engaged : s.call.state ≠ .idle) : Moves s (resumeCall s) := by
  unfold resumeCall; split
  · exact .refl
  · rename_i p pause
    have resumed : Moves s (s.setCall fun c => { c with state := p.from_, pause := none }) :=
      Move.one (.resumed p engaged pause)
    have back {st : CallState} (from_ : p.from_ = st) (busy : st ≠ .idle) :
        (s.setCall fun c => { c with state := p.from_, pause := none }).call.state ≠ .idle := from_ ▸ busy
    dsimp only; split <;> rename_i st
    · split
      · exact resumed.trans (moves_startDialling _ (back st (by simp)))
      · exact resumed
    · exact resumed.trans (moves_dialSymbol _ (back st (by simp)))
    · split
      · exact resumed.trans (moves_beginBlock _ (back st (by simp)))
      · exact resumed
    · exact resumed.trans (moves_beginBlock _ (back st (by simp)))
    · split
      · exact resumed.trans (moves_beginBlock _ (back st (by simp)))
      · exact resumed
    all_goals exact resumed

theorem moves_answerDemand (c : ReportClass) (engaged : s.call.state ≠ .idle) : Moves s (answerDemand c s) := by
  unfold answerDemand; split
  · split
    · exact moves_endCall s _ engaged
    · exact moves_resumeCall s engaged
  · exact moves_resumeCall s engaged

theorem moves_endPause (engaged : s.call.state ≠ .idle) : Moves s (endPause s) := by
  unfold endPause; split
  · exact .refl
  · split
    · exact moves_endCall s _ engaged
    · exact moves_resumeCall s engaged

theorem moves_setPause (f : PauseRecord → PauseRecord) (from_ : ∀ p, (f p).from_ = p.from_) (engaged : s.call.state ≠ .idle) :
    Moves s (s.setPause f) := by
  refine Move.one (.call _ ⟨engaged, engaged, rfl, rfl, rfl, fun p e => .inr ?_⟩)
  obtain ⟨q, before, rfl⟩ := Option.map_eq_some_iff.1 e
  exact ⟨q, before, from_ q⟩

theorem moves_pausedSymbol (y : Sym) (d : Nat) (engaged : s.call.state ≠ .idle) : Moves s (pausedSymbol y d s) := by
  unfold pausedSymbol; split
  · exact .refl
  · split
    · exact moves_setPause s _ (fun _ => rfl) engaged
    · split
      · exact moves_answerDemand s _ engaged
      · exact moves_setPause s _ (fun _ => rfl) engaged

theorem moves_expireAck (engaged : s.call.state ≠ .idle) : Moves s (expireAck s) := by
  have expired := moves_timing s (fun c => { c with ackDeadline := none, ackExpired := some s.now }) engaged rfl rfl rfl rfl rfl
  unfold expireAck; dsimp only; split_ifs
  · exact expired.trans (moves_timing _ _ (by exact engaged) rfl rfl rfl rfl rfl)
  · exact expired.trans (moves_beginBlock _ (by exact engaged))
  · exact moves_endCall s _ engaged

/-- In CE_IDLE no deadline of a call runs. -/
theorem engaged_of_working {s : State} {st : CallState} (h : s.call.working = st) (busy : st ≠ .idle) :
    s.call.state ≠ .idle := by
  intro idle
  have working : s.call.working = .idle := by unfold Call.working; rw [idle]
  exact busy (h.symm.trans working)

theorem moves_callDial : Moves s (callDial s) := by
  unfold callDial; split
  · rename_i st; exact moves_startDialling s (by simp [st])
  · rename_i st
    have engaged : s.call.state ≠ .idle := by simp [st]
    split
    · exact (moves_timing s _ engaged rfl rfl rfl rfl rfl).trans (moves_setPause _ _ (fun _ => rfl) (by exact engaged))
    · exact .refl
  · exact .refl

theorem moves_callBusy : Moves s (callBusy s) := by
  unfold callBusy; split
  · rename_i h; exact moves_endCall s _ (engaged_of_working h (by simp))
  · exact .refl

theorem moves_callHandshake : Moves s (callHandshake s) := by
  unfold callHandshake; split
  · rename_i h; exact moves_timing s _ (engaged_of_working h (by simp)) rfl rfl rfl rfl rfl
  · exact .refl

theorem moves_callHandshakeEnd : Moves s (callHandshakeEnd s) := by
  unfold callHandshakeEnd; split
  · rename_i h; exact moves_timing s _ (engaged_of_working h (by simp)) rfl rfl rfl rfl rfl
  · exact .refl

theorem moves_callAck : Moves s (callAck s) := by
  unfold callAck; split
  · rename_i st; split
    · exact moves_countAck s (by simp [st])
    · exact .refl
  · rename_i st; split
    · exact moves_countAck s (by simp [st])
    · exact .refl
  · rename_i st; split
    · exact moves_countAck s (by simp [st])
    · exact .refl
  · exact .refl

theorem moves_callAckEnd : Moves s (callAckEnd s) := by
  unfold callAckEnd; split
  · rename_i h; exact moves_timing s _ (engaged_of_working h.1 (by simp)) rfl rfl rfl rfl rfl
  · exact .refl

theorem moves_callSymbol (y : Sym) (d : Nat) : Moves s (callSymbol y d s) := by
  unfold callSymbol; split
  · rename_i st; exact moves_pausedSymbol s _ _ (by simp [st])
  · exact .refl

theorem moves_endDialGap (engaged : s.call.state ≠ .idle) : Moves s (endDialGap s) := by
  unfold endDialGap; split
  · exact (moves_timing s _ engaged rfl rfl rfl rfl rfl).trans (moves_dialSymbol _ (by exact engaged))
  · exact moves_dialSymbol s engaged

theorem moves_callToneDone (l : LineNo) : Moves s (callToneDone l s) := by
  unfold callToneDone; split
  · split
    · rename_i st; exact moves_timing s _ (by simp [st]) rfl rfl rfl rfl rfl
    · rename_i st; exact moves_timing s _ (by simp [st]) rfl rfl rfl rfl rfl
    · exact .refl
  · exact .refl

theorem moves_accessToneDone (l : LineNo) (y : Sym) : Moves s (accessToneDone l y s) := by
  unfold accessToneDone; split
  · rename_i st
    have may : MayAcquire s := .of_state st (by simp)
    split
    · split
      · exact moves_setAccess s _ may
      · split
        · exact moves_setAccess s _ may
        · exact .refl
    · exact .refl
  · exact .refl

theorem moves_finishTone (r : ToneRequest) : Moves s (finishTone r s) := by
  refine Move.one ?_
  unfold finishTone; dsimp only; split <;> exact .aside rfl rfl rfl rfl

theorem moves_endTone : Moves s (endTone s) := by
  unfold endTone; split
  · exact ((moves_finishTone s _).trans (moves_accessToneDone _ _ _)).trans (moves_callToneDone _ _)
  · exact .refl

end

end Sys2Proof.Machine
end


section
/-! Every event move by move, and what every step keeps of the queue and of the call. -/

namespace Sys2Proof.Machine

section
variable (s : State)

/-! ### The lines' and the access controller's events -/

theorem moves_expirePreemptWait : Moves s (expirePreemptWait s) := by
  unfold expirePreemptWait; split
  · rename_i st; exact (moves_setAccess s _ (.of_state st (by simp))).trans (moves_preemptionTest _)
  · exact .refl

theorem moves_repeatDemand : Moves s (repeatDemand s) := by
  unfold repeatDemand; split
  · rename_i st _; exact moves_beginDemand s _ _ _ _ (.of_state st (by simp))
  · exact .refl

theorem moves_sendClassDigit : Moves s (sendClassDigit s) := by
  unfold sendClassDigit; split
  · rename_i st
    exact (moves_requestTone s _ _ _).trans (moves_setAccess _ _
      ((MayAcquire.of_state st (by simp)).of_calm (calm_requestTone s _ _ _) (access_requestTone s _ _ _)))
  · exact .refl

theorem moves_succeedPreempt : Moves s (succeedPreempt s) := by
  unfold succeedPreempt; split
  · rename_i st
    exact (moves_releaseLine s _ _ _).trans (moves_setAccess _ _
      ((MayAcquire.of_state st (by simp)).of_calm (calm_releaseLine s _ _ _) (access_releaseLine s _ _ _)))
  · exact .refl

theorem mayAcquire_raiseHeadContention (may : MayAcquire s) : MayAcquire (raiseHeadContention s) := by
  unfold raiseHeadContention; split <;> exact may

theorem moves_failPreempt : Moves s (failPreempt s) := by
  unfold failPreempt; split
  · rename_i l _ st
    have may := (MayAcquire.of_state st (by simp)).of_calm (calm_releaseLine s .access .noYield l)
      (access_releaseLine s .access .noYield l)
    exact ((moves_releaseLine s _ _ _).trans (moves_raiseHeadContention _)).trans
      (moves_chooseLine _ _ (mayAcquire_raiseHeadContention _ may))
  · exact .refl

theorem moves_passWithGrant (h : HeldReport) : Moves s (passWithGrant h s) := by
  unfold passWithGrant; split
  · rename_i st; exact moves_setAccess s _ (.of_state st (by simp))
  · exact .refl

theorem moves_accessCurrentChange (b : CurrentBand) : Moves s (accessCurrentChange b s) := by
  unfold accessCurrentChange; split
  · rename_i st
    split
    · exact moves_setAccess s _ (.of_state st (by simp))
    · exact .refl
  · exact moves_passWithGrant s _
  · exact .refl

theorem moves_accessLoopLoss : Moves s (accessLoopLoss s) := by
  unfold accessLoopLoss; split
  · rename_i st
    split
    · exact moves_releaseAndChoose s _ _ (.of_state st (by simp))
    · exact .refl
  · exact moves_passWithGrant s _
  · exact .refl

theorem moves_deadFault (l : LineNo) : Moves s (deadFault l s) := by
  unfold deadFault; split
  · exact (moves_setLine s _ _).trans (moves_tellTrouble _ _ _)
  · exact ((moves_setLine s _ _).trans (moves_accessLineNotice _ _)).trans (moves_tellTrouble _ _ _)

theorem moves_enterOnhook (l : LineNo) (b : OnhookBand) : Moves s (enterOnhook l b s) := by
  have entered := (moves_setLine s l (Line.enterOnhook s.now b)).trans (moves_accessLineNotice _ l)
  unfold enterOnhook; dsimp only; split
  · exact entered.trans (moves_deadFault _ _)
  · exact entered

theorem moves_endPeriod (l : LineNo) : Moves s (endPeriod l s) := by
  unfold endPeriod; split
  · exact moves_enterOnhook s _ _
  · exact moves_setLine s _ _

theorem moves_qualifyOnhook (l : LineNo) : Moves s (qualifyOnhook l s) := by
  have qualified := moves_setLine s l fun ln => { ln with qualifiedOnhook := ln.sampledOnhook }
  unfold qualifyOnhook; dsimp only; split
  · split
    · exact qualified.trans (moves_enterOnhook _ _ _)
    · exact qualified
  · exact qualified

theorem moves_recoverLine (l : LineNo) : Moves s (recoverLine l s) := by
  unfold recoverLine; split
  · exact (moves_enterOnhook s _ _).trans (moves_tellTrouble _ _ _)
  · exact .refl

theorem moves_foundShared (res : CheckResult) (l : LineNo) : Moves s (foundShared res l s) := by
  have counted := moves_setLine s l fun ln => { ln with collisions := saturatingSucc 65535 ln.collisions }
  exact (counted.trans (moves_dropToGuard _ _ _)).trans (moves_accessCheckResult _ _)

theorem moves_qualifyCurrent (l : LineNo) : Moves s (qualifyCurrent l s) := by
  have qualified := moves_setLine s l
    fun ln => { ln with qualifiedCurrent := ln.sampledCurrent, qualifiedCurrentSince := s.now }
  unfold qualifyCurrent; dsimp only; split
  · split
    · split
      · exact qualified.trans (moves_foundShared _ _ _)
      · exact qualified
    · unfold tellCurrent; split
      · exact qualified.trans (moves_accessCurrentChange _ _)
      · exact qualified
  · exact qualified

theorem moves_checkedClear (l : LineNo) : Moves s (checkedClear l s) := by
  have cleared := moves_setLine s l fun ln => { ln with checkStart := none, noLoop := false }
  unfold checkedClear
  refine Relation.ReflTransGen.trans ?_ (moves_accessCheckResult _ _)
  split
  · exact cleared.trans (moves_tellTrouble _ _ _)
  · exact cleared

theorem moves_checkedNoLoop (l : LineNo) : Moves s (checkedNoLoop l s) := by
  have opened := (moves_setLine s l fun ln =>
    { (ln.openRelay s.now .faulted none).receiverAnew s.now with faultCause := some .noLoop, noLoop := true }).trans
      (moves_silenceLine _ l)
  unfold checkedNoLoop
  refine Relation.ReflTransGen.trans ?_ (moves_accessCheckResult _ _)
  split
  · exact opened
  · exact opened.trans (moves_tellTrouble _ _ _)

theorem moves_endCheckWindow (l : LineNo) : Moves s (endCheckWindow l s) := by
  unfold endCheckWindow; split
  · exact moves_checkedClear s l
  · exact moves_checkedNoLoop s l
  · exact moves_foundShared s _ l
  · exact moves_foundShared s _ l

theorem moves_endBreak (l : LineNo) : Moves s (endBreak l s) := by
  have reseized : Moves s (reseizeLine l s) := moves_setLine s _ _
  unfold endBreak; dsimp only; split
  · rename_i st
    split
    · exact reseized.trans (moves_setAccess _ _ (.of_state (s := reseizeLine l s) st (by simp)))
    · exact reseized
  · exact reseized

theorem moves_tellHolder (l : LineNo) (access call : State → State) (ha : Moves s (access s)) (hc : Moves s (call s)) :
    Moves s (tellHolder l access call s) := by
  unfold tellHolder; split
  · exact ha
  · split
    · exact hc
    · exact .refl
  · exact .refl

theorem moves_noteHeard (l : LineNo) (f : Line → Line) : Moves s (noteHeard l f s) := moves_setLine s _ _

theorem moves_routeTone (l : LineNo) (call peer : State → State) (hc : Moves s (call s)) (hp : Moves s (peer s)) :
    Moves s (routeTone l call peer s) := by
  obtain h | h | h := routeTone_cases l call peer s <;> rw [h]
  · exact hc
  · exact hp

/-! ### The peer listener -/

theorem moves_unnameAll (key : HeardKey) : Moves s (unnameAll key s) := by
  have fold : ∀ (l : List LineNo) (u : State), Moves u (l.foldl (fun t l => t.setDecoder l (·.unname key)) u) := by
    intro l
    induction l with
    | nil => exact fun _ => .refl
    | cons m l ih => exact fun u => (moves_setDecoder u m _).trans (ih _)
  exact fold _ s

theorem moves_forgetHeard (key : HeardKey) : Moves s (forgetHeard key s) :=
  (moves_setHeard s _).trans (moves_unnameAll _ _)

theorem moves_enterHeard (key : HeardKey) : Moves s (enterHeard key s) := by
  unfold enterHeard
  refine Relation.ReflTransGen.trans ?_ (moves_setHeard _ _)
  split
  · exact moves_forgetHeard s _
  · split
    · exact .refl
    · split
      · exact moves_forgetHeard s _
      · exact .refl

theorem moves_stationClash : Moves s (stationClash s) := by
  unfold stationClash; dsimp only; split
  · exact moves_listener s _
  · exact (moves_listener s _).trans (moves_tellTrouble _ _ _)

theorem moves_awaitAck (l : LineNo) (names : Option HeardKey) : Moves s (awaitAck l names s) := moves_setDecoder s _ _

theorem moves_takeBlock (l : LineNo) (b : HeardBlock) : Moves s (takeBlock l b s) := by
  have named := moves_setOccupant s l b.cls
  unfold takeBlock; dsimp only; split
  · exact named.trans (moves_awaitAck _ _ _)
  · split
    · exact (named.trans (moves_awaitAck _ _ _)).trans (moves_stationClash _)
    · split
      · exact (named.trans (moves_enterHeard _ _)).trans (moves_awaitAck _ _ _)
      · exact named.trans (moves_awaitAck _ _ _)

theorem moves_setDEnded (l : LineNo) (e : Option Nat) : Moves s (setDEnded l e s) := moves_setDecoder s _ _
theorem moves_setStream (l : LineNo) (st : Option Stream) : Moves s (setStream l st s) := moves_setDecoder s _ _

theorem moves_peerSymbolAlone (l : LineNo) (y : Sym) (d : Nat) : Moves s (peerSymbolAlone l y d s) := by
  unfold peerSymbolAlone; split
  · exact (moves_setStream s _ _).trans (moves_setDEnded _ _ _)
  · split
    · exact moves_setDEnded s _ _
    · split
      · exact (moves_setDEnded s _ _).trans (moves_setOccupant _ _ _)
      · exact moves_setDEnded s _ _

theorem moves_endStream (l : LineNo) (st : Stream) : Moves s (endStream l st s) := by
  unfold endStream; split
  · exact (moves_setStream s _ _).trans (moves_takeBlock _ _ _)
  · exact moves_discardStream s _

theorem moves_peerSymbol (l : LineNo) (y : Sym) (d : Nat) : Moves s (peerSymbol l y d s) := by
  have alone := (moves_discardStream s l).trans (moves_peerSymbolAlone _ l y d)
  unfold peerSymbol; split
  · exact moves_peerSymbolAlone s _ _ _
  · split
    · exact alone
    · split
      · exact moves_endStream s _ _
      · split
        · exact moves_setStream s _ _
        · exact alone

theorem moves_reportSymbol (l : LineNo) (y : Sym) (d : Nat) : Moves s (reportSymbol l y d s) :=
  (moves_noteHeard s l id).trans (moves_routeTone _ _ _ _ (moves_callSymbol _ _ _) (moves_peerSymbol _ _ _ _))

theorem moves_coverReport (p q : Nat) : Moves s (coverReport p q s) := by
  unfold coverReport; split
  · split
    · exact .refl
    · exact moves_removeReport s _ _
  · exact .refl

theorem moves_contradict (e : HeardEntry) : Moves s (contradict e s) := by
  unfold contradict; split
  · split
    · exact .refl
    · split
      · exact .refl
      · exact (moves_setChan s _ _).trans (moves_handReport _ _)
  · exact .refl

theorem moves_coverReports (p : Nat) : ∀ (l : List Report) (s : State),
    Moves s (l.foldl (fun t r => coverReport p r.seq t) s)
  | [], _ => .refl
  | r :: l, s => (moves_coverReport s p r.seq).trans (moves_coverReports p l _)

theorem moves_actOnAcknowledged (e : HeardEntry) : Moves s (actOnAcknowledged e s) := by
  unfold actOnAcknowledged; split
  · exact (moves_coverReports _ _ s).trans (moves_contradict _ _)
  · exact .refl

theorem moves_acknowledgeHeard (key : HeardKey) : Moves s (acknowledgeHeard key s) := by
  have counted (f : List HeardEntry → List HeardEntry) (n : Nat) :
      Moves s { s.setHeard f with listener := { (s.setHeard f).listener with ackCount := n } } := moves_listener s _
  unfold acknowledgeHeard; dsimp only; split
  · exact (counted _ _).trans (moves_actOnAcknowledged _ _)
  · exact counted _ _

theorem moves_peerAck (l : LineNo) : Moves s (peerAck l s) := by
  unfold peerAck; split
  · exact .refl
  · split
    · dsimp only; split
      · exact (moves_setDecoder s _ _).trans (moves_acknowledgeHeard _ _)
      · exact moves_setDecoder s _ _
    · exact .refl

/-! ### Channels -/

section
variable (c : ChannelNo)

theorem moves_handChannel (q : Qualifier) (v : Option Nat) : Moves s (handChannel c q v s) := by
  unfold handChannel; split
  · exact .refl
  · exact (moves_setChan s c _).trans (moves_handReport _ _)

theorem moves_contactAlarm : Moves s (contactAlarm c s) := (moves_setChan s c _).trans (moves_handChannel _ _ _ _)

theorem moves_contactActive : Moves s (contactActive c s) := by
  unfold contactActive; dsimp only; split
  · exact moves_contactAlarm s c
  · exact moves_setChan s c _

theorem moves_contactRestore : Moves s (contactRestore c s) := by
  unfold contactRestore; dsimp only; split
  · exact (moves_setChan s c _).trans (moves_handChannel _ _ _ _)
  · exact moves_setChan s c _

theorem moves_contactNormal : Moves s (contactNormal c s) := by
  unfold contactNormal; dsimp only; split
  · exact moves_contactRestore s c
  · exact moves_setChan s c _

theorem moves_contactChange : Moves s (contactChange c s) := by
  unfold contactChange; dsimp only; split
  · exact moves_contactActive s c
  · exact moves_setChan s c _
  · split
    · exact moves_contactAlarm s c
    · exact .refl
  · exact moves_contactNormal s c
  · exact moves_setChan s c _
  · split
    · exact moves_contactRestore s c
    · exact .refl
  · exact .refl

theorem moves_pulse : Moves s (pulse c s) := by
  unfold pulse; dsimp only; split
  · split
    · exact ((moves_setChan s c _).trans (moves_setChan _ c _)).trans (moves_handChannel _ _ _ _)
    · exact moves_setChan s c _
  · exact .refl

theorem moves_bandChange (old : Band) : Moves s (bandChange c old s) := by
  unfold bandChange; dsimp only; split
  · exact .refl
  · exact moves_contactChange s c
  all_goals
    split
    · exact moves_pulse s c
    · exact .refl

theorem moves_flowNormal (rate : Nat) : Moves s (flowNormal c rate s) := by
  unfold flowNormal; dsimp only; split
  · split
    · exact moves_setChan s c _
    · exact (moves_setChan s c _).trans (moves_handChannel _ _ _ _)
  · exact moves_setChan s c _

theorem moves_flowAlarm (rate : Nat) : Moves s (flowAlarm c rate s) := by
  rw [flowAlarm_eq]
  dsimp only; split
  · exact moves_setChan s c _
  · split
    · exact moves_setChan s c _
    · split
      · exact (moves_setChan s c _).trans (moves_handChannel _ _ _ _)
      · exact moves_setChan s c _

theorem moves_countWindow (hold : Nat) : Moves s (countWindow c hold s) := by
  unfold countWindow; dsimp only; split
  · split
    · exact (moves_setChan s c _).trans (moves_handChannel _ _ _ _)
    · exact moves_setChan s c _
  · exact .refl

theorem moves_endWindow (e : Nat) : Moves s (endWindow c e s) := by
  rw [endWindow_eq]
  split
  · exact (moves_setChan s c _).trans (moves_flowNormal _ _ _)
  · split
    · exact (moves_setChan s c _).trans (moves_flowAlarm _ _ _)
    · split
      · exact (moves_setChan s c _).trans (moves_countWindow _ _ _)
      · exact moves_setChan s c _

theorem moves_exitState (memory : Bool) : Moves s (exitState c memory s) := by
  unfold exitState; dsimp only; split
  · exact .refl
  · split
    · exact moves_setChan s c _
    · exact (moves_setChan s c _).trans (moves_contactNormal _ _)
    · exact (moves_setChan s c _).trans (moves_contactActive _ _)
    · exact moves_setChan s c _
  all_goals exact moves_setChan s c _

theorem moves_faultExit (old : Band) : Moves s (faultExit c old s) :=
  ((moves_setChan s c _).trans (moves_tellTrouble _ _ _)).trans (moves_exitState _ _ _)

theorem moves_bypassChannel : Moves s (bypassChannel c s) := by
  unfold bypassChannel; split
  · exact .refl
  · exact (moves_setChan s c _).trans (moves_handReport _ _)

theorem moves_catchUp : Moves s (catchUp c s) := by
  rw [catchUp_eq]; split
  · exact moves_handChannel s c _ _
  · split
    · exact moves_handChannel s c _ _
    · exact .refl

theorem moves_unbypassChannel : Moves s (unbypassChannel c s) := by
  unfold unbypassChannel; split
  · exact ((moves_setChan s c _).trans (moves_handReport _ _)).trans (moves_catchUp _ _)
  · exact .refl

theorem moves_expireConfirm : Moves s (expireConfirm c s) := by
  unfold expireConfirm; split
  · exact moves_contactAlarm s c
  · exact moves_setChan s c _

theorem moves_expireRestore : Moves s (expireRestore c s) := by
  unfold expireRestore; split
  · exact moves_contactRestore s c
  · exact moves_setChan s c _

theorem moves_sampleChannel (b : Band) : Moves s (sampleChannel c b s) := by
  unfold sampleChannel; split
  · exact .refl
  · exact moves_setChan s c _

end

/-! ### The maintenance port and the start -/

theorem moves_sendAnswer (ls : List Text) (restart : Bool) : Moves s (sendAnswer ls restart s) := moves_setPort s _
theorem moves_answerOk (ls : List Text) : Moves s (answerOk ls s) := moves_sendAnswer s _ _
theorem moves_answerError (e : ErrorCode) : Moves s (answerError e s) := moves_sendAnswer s _ _

theorem call_abortAcquisition : (abortAcquisition s).call = s.call := by
  have released : (match s.access.state with
      | .check _ l | .preempt _ l _ | .granted _ l _ _ => releaseAndIdle l s
      | .wait _ _ _ | .holdoff _ _ _ _ _ | .idle => s.setAccess .idle).call = s.call := by
    split <;> first | exact (calm_releaseAndIdle s _).call | rfl
  unfold abortAcquisition; dsimp only; split
  · exact ((headOnly_decideHead _).call.trans released)
  · exact released

theorem moves_abortAcquisition : Moves s (abortAcquisition s) := by
  have released : Moves s (match s.access.state with
      | .check _ l | .preempt _ l _ | .granted _ l _ _ => releaseAndIdle l s
      | .wait _ _ _ | .holdoff _ _ _ _ _ | .idle => s.setAccess .idle) := by
    split <;> first | exact moves_releaseAndIdle s _ | exact moves_setIdle s
  unfold abortAcquisition; dsimp only; split
  · exact released.trans (moves_standing _ _ _ (fun _ => ⟨rfl, rfl⟩) fun _ st => st)
  · exact released

theorem moves_onChannel (n : Nat) (act : ChannelNo → State → State) (one : ∀ c, Moves s (act c s)) :
    Moves s (onChannel n act s) := by
  unfold onChannel; split
  · exact moves_answerError s _
  · rename_i c _
    split
    · exact moves_answerError s _
    · exact (one c).trans (moves_answerOk _ _)

theorem moves_doTest : Moves s (doTest s) := by
  unfold doTest; split
  · exact moves_answerError s _
  · exact (moves_handReport s _).trans (moves_answerOk _ _)

theorem moves_doAbort : Moves s (doAbort s) := by
  have aborted : Moves s (if s.access.state ≠ .idle then abortAcquisition s else s) := by
    split
    · exact moves_abortAcquisition s
    · exact .refl
  have call : (if s.access.state ≠ .idle then abortAcquisition s else s).call = s.call := by
    split
    · exact call_abortAcquisition s
    · rfl
  unfold doAbort; dsimp only; split
  · refine Relation.ReflTransGen.trans ?_ (moves_answerOk _ _)
    split
    · rename_i inCall
      exact aborted.trans (moves_endCall _ _ (by rw [call]; exact engaged_of_inCall inCall))
    · exact aborted
  · exact moves_answerError s _

theorem moves_doCommand (p : PortCommand) : Moves s (doCommand p s) := by
  cases p
  case hist n => unfold doCommand doHist; dsimp only; split <;> exact moves_sendAnswer s _ _
  case chan n => unfold doCommand doChan; dsimp only; split <;> exact moves_sendAnswer s _ _
  case ack => exact (moves_trouble s _).trans (moves_answerOk _ _)
  case bypass => exact moves_onChannel s _ _ (moves_bypassChannel s)
  case unbypass => exact moves_onChannel s _ _ (moves_unbypassChannel s)
  case test => exact moves_doTest s
  case abort => exact moves_doAbort s
  all_goals exact moves_sendAnswer s _ _

theorem moves_takeLine (w : PortLine) : Moves s (takeLine w s) := by
  unfold takeLine; split
  · exact moves_answerError s _
  · split
    · exact .refl
    · split
      · exact moves_doCommand s _
      · exact moves_answerError s _

theorem moves_takeWaiting : ∀ (l : List PortLine) (s : State), Moves s (takeWaiting l s)
  | [], s => moves_setPort s _
  | w :: rest, s => by
    unfold takeWaiting; dsimp only; split
    · exact (moves_takeLine s w).trans (moves_setPort _ _)
    · exact (moves_takeLine s w).trans (moves_takeWaiting rest _)

theorem moves_takeCharacter (code : Nat) : Moves s (takeCharacter code s) := by
  have completed (w : PortLine) (u : State) : Moves u (completeLine w u) := by
    unfold completeLine; split
    · exact moves_setPort u _
    · exact moves_takeLine u w
  unfold takeCharacter; split
  · exact moves_setPort s _
  · split
    · exact (moves_setPort s _).trans (completed _ _)
    · split
      · exact moves_setPort s _
      · exact .refl

theorem moves_giveCommand (p : PortCommand) : Moves s (giveCommand p (doCommand p) s) := by
  obtain ⟨_, h⟩ | ⟨_, _, _, h⟩ | ⟨_, _, _, h⟩ | ⟨_, _, h⟩ := giveCommand_cases s p (doCommand p) <;> rw [h]
  · exact moves_doCommand s p
  · exact moves_answerError s _
  · exact moves_setPort s _

theorem moves_tryRead : Moves s (tryRead s) := by
  refine Move.one ?_
  unfold tryRead; split <;> exact .aside rfl rfl rfl rfl

theorem moves_beginStart (cause : StartCause) : Moves s (beginStart cause s) := Move.one (.fresh rfl rfl rfl)

theorem moves_endAnswer : Moves s (endAnswer s) := by
  unfold endAnswer; split
  · exact .refl
  · split
    · exact (moves_beginStart s _).trans (moves_tryRead _)
    · exact ((moves_setPort s _).trans (moves_takeWaiting _ _)).trans (moves_setPort _ _)

theorem moves_endRead (bytes : Option (List Byte)) : Moves s (endRead bytes s) := by
  have read : Moves s (afterRead (loadImage bytes).1 (loadImage bytes).2.1 s) := Move.one (.fresh rfl rfl rfl)
  have started := read.trans (moves_handReport _ (startReport s.startCause))
  unfold endRead; dsimp only; split
  · exact started.trans (moves_tellTrouble _ _ _)
  · exact started

theorem moves_expireTestTimer : Moves s (expireTestTimer s) := by
  unfold expireTestTimer; dsimp only; split
  · exact moves_trouble s _
  · exact (moves_trouble s _).trans (moves_handReport _ _)

/-! ### Every event -/

/-- An event moves what its effect moves when it is due. -/
theorem moves_whenDue {b : Bool} {f : State → State} {t : State} (taken : whenDue b f s = .next t)
    (effect : b = true → Moves s (f s)) : Moves s t := by
  obtain ⟨due, h⟩ | ⟨_, h⟩ := whenDue_cases s b f <;> cases h.symm.trans taken
  · exact effect due
  · exact .refl

/-- The start family. -/
theorem moves_startEvent {i : Instr} {t : State} (start : startEvent i = true) (taken : exec i s = .next t) : Moves s t := by
  cases i <;> cases start <;> unfold exec at taken
  case powerUp | supplyFailure => cases taken; exact Move.one (.fresh rfl rfl rfl)
  case powerStable =>
    refine moves_whenDue s taken fun _ => ?_
    exact (Move.one (.aside rfl rfl rfl rfl : Move s { s with supply := .up })).trans (moves_tryRead _)
  case startPinLow => exact moves_whenDue s taken fun _ => Move.one (.fresh rfl rfl rfl)
  case startPinRelease =>
    have released : Moves s { s with pinLow := false } := Move.one (.aside rfl rfl rfl rfl)
    refine moves_whenDue s taken fun _ => ?_
    split
    · exact released.trans (moves_tryRead _)
    · exact released
  case imageReadEnd | imageReadTimeout => exact moves_whenDue s taken fun _ => moves_endRead s _
  case answerEnd => exact moves_whenDue s taken fun _ => moves_endAnswer s

/-- The channels' events. -/
theorem moves_channelEvent {i : Instr} {t : State} {c : ChannelNo} (channel : channelEvent i = some c)
    (taken : exec i s = .next t) : Moves s t := by
  cases i <;> cases channel <;> unfold exec at taken <;> refine moves_whenDue s taken fun _ => ?_
  case channelSample => exact moves_sampleChannel s c _
  case channelBandQualified => exact (moves_setChan s c _).trans (moves_bandChange _ _ _)
  case confirmTimerExpiry => exact moves_expireConfirm s c
  case restoreTimerExpiry => exact moves_expireRestore s c
  case windowEnd => exact moves_endWindow s c _
  case wiringFaultEntry => exact (moves_setChan s c _).trans (moves_tellTrouble _ _ _)
  case wiringFaultBandChange =>
    exact ((moves_setChan s c _).trans (moves_tellTrouble _ _ _)).trans (moves_tellTrouble _ _ _)
  case wiringFaultExit => exact moves_faultExit s c _

/-- The port's events. -/
theorem moves_portEvent {i : Instr} {t : State} (port : portEvent i = true) (taken : exec i s = .next t) : Moves s t := by
  cases i <;> cases port <;> unfold exec at taken
  case characterReceived => exact moves_whenDue s taken fun _ => moves_takeCharacter s _
  case ident => cases taken; exact moves_giveCommand s .ident
  case status => cases taken; exact moves_giveCommand s .status
  case queue => cases taken; exact moves_giveCommand s .queue
  case hist n => cases taken; exact moves_giveCommand s (.hist n)
  case lines => cases taken; exact moves_giveCommand s .lines
  case chan n => cases taken; exact moves_giveCommand s (.chan n)
  case trouble => cases taken; exact moves_giveCommand s .trouble
  case ack => cases taken; exact moves_giveCommand s .ack
  case bypass n => cases taken; exact moves_giveCommand s (.bypass n)
  case unbypass n => cases taken; exact moves_giveCommand s (.unbypass n)
  case test => cases taken; exact moves_giveCommand s .test
  case abort => cases taken; exact moves_giveCommand s .abort
  case restart => cases taken; exact moves_giveCommand s .restart

theorem moves_takeOffered (due : takeGrantDue s = true) : Moves s (takeOffered s) := by
  unfold takeOffered; split
  · rename_i l head passed st
    split
    · rename_i r found
      have idle : s.call.state = .idle := by
        simp only [takeGrantDue, st, Bool.and_eq_true, decide_eq_true_eq] at due
        exact due.1.2
      exact moves_takeGrant s l r passed idle (report_mem found).1
    · exact .refl
  · exact .refl

/-- A deadline of the call runs only out of CE_IDLE. -/
theorem engaged_of_deadline {running isOver : Bool} {st : CallState} (h : (running && decide (s.call.working = st) && isOver) = true)
    (busy : st ≠ .idle) : s.call.state ≠ .idle := by
  simp only [Bool.and_eq_true, decide_eq_true_eq] at h
  exact engaged_of_working h.1.2 busy

theorem engaged_of_gap {running isOver : Bool} {st : CallState} (h : (running && decide (s.call.state = st) && isOver) = true)
    (busy : st ≠ .idle) : s.call.state ≠ .idle := by
  simp only [Bool.and_eq_true, decide_eq_true_eq] at h
  exact h.1.2 ▸ busy

theorem engaged_of_leadIn (h : leadInIsDue s = true) : s.call.state ≠ .idle := by
  intro idle; simp [leadInIsDue, idle] at h

/-- All other events. -/
theorem moves_otherEvent {i : Instr} {t : State} (start : startEvent i = false) (channel : channelEvent i = none)
    (port : portEvent i = false) (taken : exec i s = .next t) : Moves s t := by
  cases i <;> cases start <;> cases channel <;> cases port <;> unfold exec at taken <;>
    refine moves_whenDue s taken fun due => ?_
  case eligibleAtReached => exact moves_decideHead s
  case restEnd => exact moves_standing s _ _ (fun _ => ⟨rfl, rfl⟩) (by simp)
  case testTimerExpiry => exact moves_expireTestTimer s
  case holdoffDeadline => exact moves_seizeChosen s
  case preemptWaitExpiry => exact moves_expirePreemptWait s
  case yieldDemandRepeat => exact moves_repeatDemand s
  case yieldDemandGapEnd => exact moves_sendClassDigit s
  case preemptSuccess => exact moves_succeedPreempt s
  case preemptResponseEnd => exact moves_failPreempt s
  case lineVoltageSample | loopCurrentSample => exact moves_setLine s _ _
  case lineOnhookBandQualified => exact moves_qualifyOnhook s _
  case settlingEnd | guardEnd | noLoopFaultEnd => exact moves_endPeriod s _
  case deadRunLimit => exact moves_deadFault s _
  case deadFaultRecovery => exact moves_recoverLine s _
  case currentBandQualified => exact moves_qualifyCurrent s _
  case checkWindowEnd => exact moves_endCheckWindow s _
  case breakEnd => exact moves_endBreak s _
  case intrusion =>
    exact (moves_setLine s _ _).trans (moves_tellHolder _ _ _ _ (moves_passWithGrant _ _) (moves_pauseCall _))
  case loopLoss =>
    exact (moves_setLine s _ _).trans (moves_tellHolder _ _ _ _ (moves_accessLoopLoss _) (moves_callLoopLoss _))
  case symbolReport =>
    split
    · exact moves_reportSymbol s _ _ _
    · exact .refl
  case dialRecognised =>
    exact (moves_noteHeard s _ _).trans (moves_routeTone _ _ _ _ (moves_callDial _) (moves_discardStream _ _))
  case dialEnd => exact moves_noteHeard s _ _
  case busyReport =>
    exact (moves_noteHeard s _ _).trans (moves_routeTone _ _ _ _ (moves_callBusy _) (moves_discardStream _ _))
  case handshakeRecognised =>
    exact (moves_noteHeard s _ _).trans (moves_routeTone _ _ _ _ (moves_callHandshake _) (moves_discardStream _ _))
  case handshakeEnd =>
    exact (moves_noteHeard s _ _).trans (moves_routeTone _ _ _ _ (moves_callHandshakeEnd _) .refl)
  case ackRecognised =>
    exact (moves_noteHeard s _ _).trans
      (moves_routeTone _ _ _ _ (moves_callAck _) ((moves_discardStream _ _).trans (moves_peerAck _ _)))
  case ackEnd => exact (moves_noteHeard s _ _).trans (moves_routeTone _ _ _ _ (moves_callAckEnd _) .refl)
  case silenceReport =>
    exact (moves_setLine s _ _).trans (moves_routeTone _ _ _ _ .refl (moves_discardStream _ _))
  case toneRequestDone => exact moves_endTone s
  case takeGrant => exact moves_takeOffered s due
  case dialDeadline | handshakeDeadline => exact moves_endCall s _ (engaged_of_deadline s due (by simp))
  case dialGapEnd => exact moves_endDialGap s (engaged_of_gap s due (by simp))
  case leadInDue => exact moves_beginBlock s (engaged_of_leadIn s due)
  case blockSymbolGapEnd => exact moves_sendSymbol s (engaged_of_gap s due (by simp))
  case ackDeadline => exact moves_expireAck s (engaged_of_deadline s due (by simp))
  case pauseEnd => exact moves_endPause s (engaged_of_gap s due (by simp))
  case clashEnd => exact (moves_listener s _).trans (moves_tellTrouble _ _ _)
  case awaitingAckDeadline => exact moves_setDecoder s _ _
  case heardEntryExpiry => exact moves_forgetHeard s _

/-- Every command is a chain of moves. -/
theorem moves_exec {i : Instr} {t : State} (taken : exec i s = .next t) : Moves s t := by
  cases start : startEvent i with
  | true => exact moves_startEvent s start taken
  | false =>
    cases channel : channelEvent i with
    | some c => exact moves_channelEvent s channel taken
    | none =>
      cases port : portEvent i with
      | true => exact moves_portEvent s port taken
      | false => exact moves_otherEvent s start channel port taken

/-- Every step is a chain of moves. -/
theorem moves_step {t : State} (taken : step s = .next t) : Moves s t := by
  have aside {u : State} (queue : u.queue = s.queue) (call : u.call = s.call) (access : u.access.state = s.access.state)
      (settings : u.settings = s.settings) : Moves s u := Move.one (.aside queue call access settings)
  unfold step at taken; split at taken
  · rename_i i rest _
    exact (aside (u := { s with pending := rest }) rfl rfl rfl rfl).trans (moves_exec _ taken)
  · split at taken
    · exact (aside (u := countChoice s) rfl rfl rfl rfl).trans (moves_exec _ taken)
    · cases taken; exact aside rfl rfl rfl rfl

end

end Sys2Proof.Machine

namespace Sys2Proof.Proofs
open Sys2Proof Sys2Proof.Machine

/-- Settles O57: a step is a chain of moves, and each of them keeps the queue sound. -/
theorem stepsKeepQueue : Obligations.Steps_keep_queue :=
  fun s _ sound taken => (moves_step s taken).keeps (fun _ _ move => move.queueSound) sound

/-- Settles O59: a step is a chain of moves, and each of them keeps the call sound. -/
theorem stepsKeepCall : Obligations.Steps_keep_call :=
  fun s _ sound taken => (moves_step s taken).keeps (fun _ _ move => move.callSound) sound

end Sys2Proof.Proofs
end


section
/-! The START report and the report that may follow it (R49, R150, R158). -/

namespace Sys2Proof.Machine

/-- What becomes of the queue when a trouble report is handed in a start: the report goes to the history without a route, and is
placed with one (R33, R34). -/
structure HandedInStart (m : Matter) (s : State) (q : Queue) : Prop where
  counter : q.counter = nextSeq s.queue.newSeq
  unrouted : (s.settings.routes.get m.cls).first = none →
    q.reports = s.queue.reports ∧ q.history = s.historyWith ⟨s.queue.newSeq, m, .notRouted, s.clock⟩
  routed : (s.settings.routes.get m.cls).first ≠ none →
    q.history = s.queue.history ∧ q.reports = insertInOrder (newReport s.queue.newSeq m s) s.queue.reports

section
variable {s : State}

/-- A trouble report is covered by no peer (R134). -/
theorem consult_trouble {m : Matter} (cls : m.cls = .trouble) (s : State) : consult m s = none := by
  simp [consult, coverable, cls]

theorem enterReport_inStart (h : JustStarted s) {m : Matter} (cls : m.cls = .trouble) (room : s.queue.reports.length < 32) :
    ∃ q res, enterReport m s = (withQueue q s, res) ∧ (∀ b, res ≠ .refused b) ∧ HandedInStart m s q := by
  by_cases route : s.settings.hasRoute m.cls = true
  · have given : JustStarted (giveSeq s) := ⟨h.now, h.call, h.noIdle, h.access⟩
    obtain ⟨head, placed⟩ := placeReport_justStarted given (newReport s.queue.newSeq m s)
    refine ⟨_, .placed, (enterReport_of_room s m route (consult_trouble cls s) room).trans (congrArg (·, _) placed), by simp,
      rfl, fun none => ?_, fun _ => ⟨rfl, rfl⟩⟩
    exact absurd none (hasRoute_eq_true.1 route)
  · have no : s.settings.hasRoute m.cls = false := by simpa using route
    refine ⟨_, .notRouted, (enterReport_of_noRoute m s no).trans (congrArg (·, _) (h.queue_eq _ rfl)), by simp, rfl,
      fun _ => ⟨rfl, rfl⟩, fun some => ?_⟩
    exact absurd (hasRoute_eq_false.1 no) some

theorem handReport_inStart (h : JustStarted s) {m : Matter} (cls : m.cls = .trouble) (room : s.queue.reports.length < 32) :
    ∃ q, handReport m s = withQueue q s ∧ HandedInStart m s q := by
  obtain ⟨q, res, e, placed, handed⟩ := enterReport_inStart h cls room
  refine ⟨q, ?_, handed⟩
  cases res <;> simp_all [handReport]

/-- A condition that becomes active in a start, with trouble reporting on, has its report handed (R139, R141). -/
theorem tellTrouble_inStart (h : JustStarted s) (c : Condition) (inactive : (s.cond c).active = false)
    (on : s.settings.troubleReporting = true) (room : s.queue.reports.length < 32) :
    let told := s.setCond c (·.change true s.clock)
    ∃ q, tellTrouble c true s = withQueue q told ∧ HandedInStart (c.report true s.clock) told q := by
  intro told
  obtain ⟨q, res, e, placed, handed⟩ :=
    enterReport_inStart (m := c.report true s.clock) (h.setCond c (·.change true s.clock)) rfl room
  refine ⟨q, ?_, handed⟩
  cases res <;> simp_all [tellTrouble, noticeOnly, handTrouble, overflowBegins, told]

end

/-! ### The queue after one report and after two -/

/-- The queue at the end of the image read, after the START report: report 0, or the history's first entry. -/
theorem first_inStart {s : State} {m : Matter} {q : Queue} (fresh : s.queue = freshQueue) (clock : s.clock = 0)
    (h : HandedInStart m s q) :
    q.counter = 1
      ∧ ((s.settings.routes.get m.cls).first = none → q.reports = [] ∧ q.history = [⟨0, m, .notRouted, 0⟩])
      ∧ ((s.settings.routes.get m.cls).first ≠ none → q.history = [] ∧ q.reports = [newReport 0 m s]) := by
  obtain ⟨counter, unrouted, routed⟩ := h
  simp only [State.historyWith, fresh, clock] at counter unrouted routed
  exact ⟨counter, unrouted, routed⟩

/-- The number of the report that follows the START report is 1 (R28). -/
theorem newSeq_second {q : Queue} (counter : q.counter = 1) (held : q.reports.map (·.seq) = [] ∨ q.reports.map (·.seq) = [0]) :
    q.newSeq = 1 := by
  have length : q.reports.length = (q.reports.map (·.seq)).length := by simp
  unfold Queue.newSeq
  rw [counter, length]
  rcases held with h | h <;> rw [h] <;> rfl

/-- The queue of a start in which some trouble reports have been handed, each with its number (R49). -/
def HoldsHanded (set : Settings) (handed : List (Nat × Matter)) (q : Queue) : Prop :=
  if (set.routes.get .trouble).first = none then
    q.reports = [] ∧ q.history = handed.map fun p => ⟨p.1, p.2, .notRouted, 0⟩
  else q.history = [] ∧ q.reports.map (fun r => (r.seq, r.matter, r.state)) = handed.map fun p => (p.1, p.2, .queued)

/-- A second report of a start stands behind the first, both TROUBLE reports of instant 0 (R29, R49). -/
theorem second_inStart {s : State} {m m' : Matter} {q : Queue} (cls : m.cls = .trouble) (cls' : m'.cls = .trouble)
    (occurred : m.occurred = 0) (clock : s.clock = 0) (counter : s.queue.counter = 1)
    (unrouted : (s.settings.routes.get .trouble).first = none → s.queue.reports = [] ∧ s.queue.history = [⟨0, m, .notRouted, 0⟩])
    (routed : (s.settings.routes.get .trouble).first ≠ none → s.queue.history = [] ∧ ∃ u, s.queue.reports = [newReport 0 m u])
    (h : HandedInStart m' s q) : HoldsHanded s.settings [(0, m), (1, m')] q := by
  obtain ⟨-, unrouted', routed'⟩ := h
  rw [cls'] at unrouted' routed'
  unfold HoldsHanded
  split
  · rename_i none
    obtain ⟨reports, history⟩ := unrouted none
    obtain ⟨same, entry⟩ := unrouted' none
    have seq : s.queue.newSeq = 1 := newSeq_second counter (.inl (by simp [reports]))
    refine ⟨same.trans reports, entry.trans ?_⟩
    simp [State.historyWith, history, seq, clock]
  · rename_i some
    obtain ⟨history, u, reports⟩ := routed some
    obtain ⟨same, placed⟩ := routed' some
    have seq : s.queue.newSeq = 1 := newSeq_second counter (.inr (by simp [reports, newReport]))
    have behind : notAfter m m' = true := by simp [notAfter, cls, cls', occurred]
    refine ⟨same.trans history, ?_⟩
    simp [placed, reports, seq, insertInOrder, newReport, behind]

end Sys2Proof.Machine

namespace Sys2Proof.Proofs
open Sys2Proof Sys2Proof.Machine

/-- Settles O9: the two reports of a start are handed to an empty queue one after the other, and the second stands behind the first. -/
theorem startReportComesFirst : Obligations.Start_report_comes_first := by
  intro s t ended cause start defaulted handed
  obtain ⟨bytes, rfl⟩ := endRead_of_imageReadEnded ended
  let u := afterRead (loadImage bytes).1 (loadImage bytes).2.1 s
  have started : JustStarted u := afterRead_justStarted _ _ s
  have isStart : startReport s.startCause = start := by
    simp only [start, cause, startReport]
    cases s.startCause <;> rfl
  have clock : u.clock = 0 := by simp [State.clock, u, afterRead]
  obtain ⟨p, first, handedFirst⟩ := handReport_inStart started (m := start) rfl (by decide : (0 : Nat) < 32)
  obtain ⟨counter, unrouted, routed⟩ := first_inStart rfl clock handedFirst
  have alone : HoldsHanded u.settings [(0, start)] p := by
    unfold HoldsHanded
    split
    · rename_i none; exact unrouted none
    · rename_i some
      obtain ⟨history, reports⟩ := routed some
      exact ⟨history, by simp [reports, newReport]⟩
  have inactive : ((withQueue p u).cond .configDefaulted).active = false :=
    congrArg ConditionRecord.active (afterRead_cond (loadImage bytes).1 (loadImage bytes).2.1 s .configDefaulted)
  have second : endRead bytes s =
      if (loadImage bytes).2.2 then tellTrouble .configDefaulted true (withQueue p u) else withQueue p u := by
    rw [← first, ← isStart]; rfl
  change HoldsHanded (endRead bytes s).settings handed (endRead bytes s).queue
  by_cases told : (loadImage bytes).2.2 = true
  · rw [if_pos told] at second
    cases on : u.settings.troubleReporting with
    | false =>
      have silent : endRead bytes s = (withQueue p u).setCond .configDefaulted (·.change true (withQueue p u).clock) :=
        second.trans (tellTrouble_silent _ _ _ (by simp [inactive]) on)
      have one : handed = [(0, start)] := if_neg fun both => by simp [silent, withQueue, on] at both
      rw [one, silent]; exact alone
    | true =>
      have room : p.reports.length < 32 := by
        rcases eq_or_ne (u.settings.routes.get start.cls).first none with none | some
        · simp [(unrouted none).1]
        · simp [(routed some).2]
      obtain ⟨q, both, handedSecond⟩ := tellTrouble_inStart (started.withQueue p) .configDefaulted inactive on room
      have active : ((endRead bytes s).cond .configDefaulted).active = true := by
        rw [second, active_tellTrouble _ _ _ _ (by simp), if_pos rfl]
      have reporting : (endRead bytes s).settings.troubleReporting = true := by rw [second.trans both]; exact on
      have two : handed = [(0, start), (1, defaulted)] := if_pos ⟨active, reporting⟩
      have report : Condition.report .configDefaulted true (withQueue p u).clock = defaulted := by
        change Condition.report .configDefaulted true u.clock = defaulted
        rw [clock]; rfl
      rw [two, second.trans both, ← report]
      exact second_inStart (s := (withQueue p u).setCond .configDefaulted (·.change true (withQueue p u).clock))
        rfl rfl rfl clock counter unrouted (fun some => ⟨(routed some).1, u, (routed some).2⟩) handedSecond
  · rw [if_neg told] at second
    have one : handed = [(0, start)] := if_neg fun both => by rw [second, inactive] at both; simp at both
    rw [one, second]; exact alone

end Sys2Proof.Proofs
end


section
/-! Entry into a full queue: the victim of an eviction (R35), the refusal and the overflow it begins (R36). -/

namespace Sys2Proof.Machine

/-! ### The victim of an eviction (R35) -/

/-- The greatest rank among reports, as R35 reckons it, from a rank on. -/
theorem foldl_rank_spec : ∀ (l : List Report) (g : Nat),
    g ≤ l.foldl (fun g r => max g r.matter.cls.rank) g
      ∧ (∀ r ∈ l, r.matter.cls.rank ≤ l.foldl (fun g r => max g r.matter.cls.rank) g)
      ∧ (l.foldl (fun g r => max g r.matter.cls.rank) g = g
          ∨ ∃ r ∈ l, r.matter.cls.rank = l.foldl (fun g r => max g r.matter.cls.rank) g)
  | [], g => ⟨le_rfl, by simp, .inl rfl⟩
  | x :: rest, g => by
    obtain ⟨least, all, attained⟩ := foldl_rank_spec rest (max g x.matter.cls.rank)
    refine ⟨(le_max_left _ _).trans least, fun r mem => ?_, ?_⟩
    · rcases List.mem_cons.1 mem with rfl | mem
      · exact (le_max_right _ _).trans least
      · exact all r mem
    · rcases attained with same | ⟨r, mem, eq⟩
      · rw [List.foldl_cons, same]
        rcases le_total x.matter.cls.rank g with le | le
        · exact .inl (max_eq_left le)
        · exact .inr ⟨x, List.mem_cons_self, (max_eq_right le).symm⟩
      · exact .inr ⟨r, List.mem_cons_of_mem _ mem, eq⟩

theorem mem_waiting {l : List Report} {r : Report} :
    r ∈ l.filter (fun r => r.state ≠ .inCall) ↔ r ∈ l ∧ evictable r = true := by
  simp [evictable]

/-- There is no victim when every report that may be evicted has a rank not greater than the new one's. -/
theorem victim_eq_none_iff {c : ReportClass} {l : List Report} :
    victim c l = none ↔ ∀ r ∈ l, evictable r = true → r.matter.cls.rank ≤ c.rank := by
  obtain ⟨-, all, attained⟩ := foldl_rank_spec (l.filter fun r => r.state ≠ .inCall) 0
  unfold victim
  dsimp only
  constructor
  · intro none r mem may
    split_ifs at none with less
    · rcases attained with zero | ⟨x, here, eq⟩
      · omega
      · rw [List.getLast?_eq_none_iff, List.filter_eq_nil_iff] at none
        exact absurd eq (by simpa using none x here)
    · exact (all r (mem_waiting.2 ⟨mem, may⟩)).trans (Nat.le_of_not_lt less)
  · intro low
    rw [if_neg]
    intro less
    rcases attained with zero | ⟨x, here, eq⟩
    · omega
    · obtain ⟨mem, may⟩ := mem_waiting.1 here
      exact absurd (low x mem may) (by omega)

/-- The victim is the last report of the greatest rank that may be evicted. -/
theorem victim_eq_some {c : ReportClass} {before after : List Report} {v : Report} (may : evictable v = true)
    (less : c.rank < v.matter.cls.rank) (first : ∀ r ∈ before, evictable r = true → r.matter.cls.rank ≤ v.matter.cls.rank)
    (last : ∀ r ∈ after, evictable r = true → r.matter.cls.rank < v.matter.cls.rank) :
    victim c (before ++ v :: after) = some v := by
  have split : (before ++ v :: after).filter (fun r => r.state ≠ .inCall) =
      before.filter (fun r => r.state ≠ .inCall) ++ v :: after.filter (fun r => r.state ≠ .inCall) := by
    rw [List.filter_append, List.filter_cons_of_pos (p := fun r : Report => decide (r.state ≠ .inCall)) may]
  have greatest : ((before ++ v :: after).filter (fun r => r.state ≠ .inCall)).foldl (fun g r => max g r.matter.cls.rank) 0 =
      v.matter.cls.rank := by
    obtain ⟨-, all, attained⟩ := foldl_rank_spec ((before ++ v :: after).filter fun r => r.state ≠ .inCall) 0
    refine le_antisymm ?_ (all v (by rw [split]; simp))
    rcases attained with zero | ⟨x, here, eq⟩
    · omega
    · rw [← eq]
      rw [split, List.mem_append, List.mem_cons, mem_waiting, mem_waiting] at here
      rcases here with ⟨mem, may'⟩ | rfl | ⟨mem, may'⟩
      · exact first x mem may'
      · exact le_rfl
      · exact (last x mem may').le
  have none : (after.filter (fun r => r.state ≠ .inCall)).filter (fun r => r.matter.cls.rank = v.matter.cls.rank) = [] := by
    refine List.filter_eq_nil_iff.2 fun r mem => ?_
    obtain ⟨mem, may'⟩ := mem_waiting.1 mem
    simpa using (last r mem may').ne
  unfold victim
  dsimp only
  rw [greatest, if_pos less, split, List.filter_append, List.filter_cons_of_pos (by simp), none]
  simp

/-- The reports without the victim. -/
theorem filter_victim {before after : List Report} {v : Report} (distinct : ((before ++ v :: after).map (·.seq)).Nodup) :
    (before ++ v :: after).filter (fun r => r.seq ≠ v.seq) = before ++ after := by
  rw [List.map_append, List.map_cons, List.nodup_middle, List.nodup_cons] at distinct
  have other (r : Report) (mem : r ∈ before ++ after) : r.seq ≠ v.seq := fun eq =>
    distinct.1 (by rw [← List.map_append]; exact List.mem_map.2 ⟨r, mem, eq⟩)
  have keep : (before ++ after).filter (fun r => r.seq ≠ v.seq) = before ++ after :=
    List.filter_eq_self.2 fun r mem => by simpa using other r mem
  rw [List.filter_append] at keep
  rw [List.filter_append, List.filter_cons_of_neg (by simp), keep]

/-! ### A report placed (R34, R35) -/

section
variable (m : Matter) (s : State)

/-- The state with a report entered among some of the queue's reports, before the head is decided (R29, R34). -/
def enteredAmong (others : List Report) (history : List HistoryEntry) : State :=
  { s with queue := { s.queue with
    counter := nextSeq s.queue.newSeq, history := history
    reports := insertInOrder (newReport s.queue.newSeq m s) others } }

theorem handReport_of_room (route : s.settings.hasRoute m.cls = true) (word : consult m s = none)
    (room : s.queue.reports.length < 32) :
    handReport m s = offerReport (newReport s.queue.newSeq m s)
      (decideHead (enteredAmong m s s.queue.reports s.queue.history)) := by
  simp only [handReport, enterReport_of_room s m route word room]
  rfl

theorem handReport_of_victim (route : s.settings.hasRoute m.cls = true) (word : consult m s = none)
    (full : 32 ≤ s.queue.reports.length) {v : Report} (isVictim : victim m.cls s.queue.reports = some v) :
    handReport m s = offerReport (newReport s.queue.newSeq m s)
      (decideHead (enteredAmong m s (s.queue.reports.filter fun r => r.seq ≠ v.seq)
        (s.historyWith ⟨v.seq, v.matter, .dropped, s.clock⟩))) := by
  obtain ⟨no, _⟩ | ⟨_, peer, covered, _⟩ | ⟨_, _, room, _⟩ | ⟨_, _, _, x, isVictim', h⟩ | ⟨_, _, _, none, _⟩ := enterReport_cases s m
  · simp [route] at no
  · simp [word] at covered
  · omega
  · cases isVictim.symm.trans isVictim'
    simp only [handReport, h]
    rw [historyWith_eq]
    rfl
  · cases isVictim.symm.trans none

/-! ### A report refused (R36) -/

/-- The state in which a report has been refused: the refusal is counted and sets the mark. -/
def refusedState : State :=
  { s with queue := { s.queue with
    counter := nextSeq s.queue.newSeq, history := s.historyWith ⟨s.queue.newSeq, m, .dropped, s.clock⟩
    overflow := min (s.queue.overflow + 1) 65535, overflowMark := true } }

theorem enterReport_of_refused (h : Refused m s) :
    enterReport m s = (refusedState m s, .refused (!s.queue.overflowMark)) := by
  obtain ⟨route, word, full, low⟩ := h
  obtain ⟨no, _⟩ | ⟨_, peer, covered, _⟩ | ⟨_, _, room, _⟩ | ⟨_, _, _, x, isVictim, _⟩ | ⟨_, _, _, _, e⟩ := enterReport_cases s m
  · simp [route] at no
  · simp [word] at covered
  · omega
  · simp [victim_eq_none_iff.2 low] at isVictim
  · rw [e, refuse, writeHistory_eq]
    rfl

/-- A report that is not refused is answered otherwise. -/
theorem enterReport_of_not_refused (h : ¬ Refused m s) : ∀ b, (enterReport m s).2 ≠ .refused b := by
  intro b
  obtain ⟨_, e⟩ | ⟨_, _, _, e⟩ | ⟨_, _, _, e⟩ | ⟨_, _, _, _, _, e⟩ | ⟨route, word, full, none, _⟩ := enterReport_cases s m
  · simp [e]
  · simp [e]
  · simp [e]
  · simp [e]
  · exact absurd ⟨route, word, full, victim_eq_none_iff.1 none⟩ h

theorem handReport_of_not_refused (h : ¬ Refused m s) : handReport m s = (enterReport m s).1 := by
  have answer := enterReport_of_not_refused m s h
  unfold handReport
  split
  · rename_i e; exact absurd (by rw [e]) (answer _)
  · rename_i e; rw [e]

theorem handTrouble_of_not_refused (c : Condition) (h : ¬ Refused m s) : handTrouble c m s = (handReport m s, false) := by
  have answer := enterReport_of_not_refused m s h
  rw [handReport_of_not_refused m s h]
  unfold handTrouble
  split
  · rename_i e; exact absurd (by rw [e]) (answer _)
  · rename_i e; rw [e]

theorem handTrouble_of_refused (c : Condition) (h : Refused m s) :
    handTrouble c m s = (makePending c m (refusedState m s), !s.queue.overflowMark) := by
  simp [handTrouble, enterReport_of_refused m s h]

end

/-! ### The overflow (R36) -/

section
variable (s : State)

/-- No report handed clears the overflow mark. -/
theorem overflowMark_enterReport (m : Matter) (mark : s.queue.overflowMark = true) :
    (enterReport m s).1.queue.overflowMark = true := by
  obtain ⟨_, h⟩ | ⟨_, _, _, h⟩ | ⟨_, _, _, h⟩ | ⟨_, _, _, _, _, h⟩ | ⟨_, _, _, _, h⟩ := enterReport_cases s m <;> rw [h]
  · exact mark
  · exact mark
  · rw [(sameOwed_placeReport _ _).overflowMark]; exact mark
  · rw [(sameOwed_placeReport _ _).overflowMark]; exact mark
  · rfl

/-- With the mark set a refusal begins no overflow. -/
theorem enterReport_marked (m : Matter) (mark : s.queue.overflowMark = true) {t : State} {b : Bool}
    (h : enterReport m s = (t, .refused b)) : b = false := by
  obtain ⟨_, e⟩ | ⟨_, _, _, e⟩ | ⟨_, _, _, e⟩ | ⟨_, _, _, _, _, e⟩ | ⟨_, _, _, _, e⟩ := enterReport_cases s m <;>
    rw [e] at h <;> simp only [Prod.mk.injEq, reduceCtorEq, and_false, EntryResult.refused.injEq] at h
  rw [← h.2, mark]; rfl

/-- With the mark set a notice begins no overflow, and leaves the mark. -/
theorem noticeOnly_marked (c : Condition) (b : Bool) (mark : s.queue.overflowMark = true) :
    (noticeOnly c b s).2 = false ∧ (noticeOnly c b s).1.queue.overflowMark = true := by
  have handed (c : Condition) (m : Matter) (u : State) (mark : u.queue.overflowMark = true) :
      (handTrouble c m u).2 = false ∧ (handTrouble c m u).1.queue.overflowMark = true := by
    have kept := overflowMark_enterReport u m mark
    unfold handTrouble
    split <;> rename_i e <;> rw [e] at kept
    · exact ⟨enterReport_marked u m mark e, kept⟩
    · exact ⟨rfl, kept⟩
  unfold noticeOnly; split
  · exact ⟨rfl, mark⟩
  · dsimp only; split
    · exact handed _ _ _ mark
    · exact ⟨rfl, mark⟩

/-- The overflow that a refusal begins is a notice of QUEUE_OVERFLOW, whose own refusal begins none. -/
theorem overflowBegins_marked (mark : s.queue.overflowMark = true) :
    overflowBegins true s = tellTrouble .queueOverflow true s := by
  simp [overflowBegins, tellTrouble, (noticeOnly_marked s .queueOverflow true mark).1]

theorem overflowBegins_eq (b : Bool) (mark : s.queue.overflowMark = true) :
    overflowBegins b s = if b then tellTrouble .queueOverflow true s else s := by
  cases b
  · rfl
  · exact overflowBegins_marked s mark

theorem tellTrouble_marked (c : Condition) (b : Bool) (mark : s.queue.overflowMark = true) :
    tellTrouble c b s = (noticeOnly c b s).1 ∧ (tellTrouble c b s).queue.overflowMark = true := by
  have notice := noticeOnly_marked s c b mark
  have told : tellTrouble c b s = (noticeOnly c b s).1 := by simp [tellTrouble, notice.1, overflowBegins]
  exact ⟨told, told ▸ notice.2⟩

theorem handReport_of_refused (m : Matter) (h : Refused m s) :
    handReport m s = if s.queue.overflowMark then refusedState m s else tellTrouble .queueOverflow true (refusedState m s) := by
  simp only [handReport, enterReport_of_refused m s h]
  rw [overflowBegins_eq _ _ rfl]
  cases s.queue.overflowMark <;> rfl

end

end Sys2Proof.Machine
end


section
/-! Where a report handed is placed, whom it evicts, when it is refused, and what a call in progress makes of it (R29, R34 to R36,
R118 to R121). -/

namespace Sys2Proof.Machine

/-! ### A report entered (R29, R34) -/

section
variable {m : Matter} {s : State} {others : List Report} {history : List HistoryEntry}

/-- A report entered stands in queue order. -/
theorem enteredAmong_sorted (sorted : InOrder others) :
    enteredAmong m s others history = { s with queue := { s.queue with
      counter := nextSeq s.queue.newSeq, history := history
      reports := others.filter (fun x => notAfter x.matter m)
        ++ newReport s.queue.newSeq m s :: others.filter (fun x => !notAfter x.matter m) } } := by
  simp only [enteredAmong, insertInOrder_eq _ _ sorted]
  rfl

/-- What is owed once a report is entered, whatever the head and a call in progress make of it. -/
theorem owed_entered (sorted : InOrder others) :
    let t := offerReport (newReport s.queue.newSeq m s) (decideHead (enteredAmong m s others history))
    let l := others.map fun r => (r.seq, r.matter)
    t.owed = l.filter (fun p => notAfter p.2 m) ++ (s.queue.newSeq, m) :: l.filter (fun p => !notAfter p.2 m)
      ∧ t.queue.history = history ∧ t.queue.overflow = s.queue.overflow := by
  intro t l
  have same : SameOwed (enteredAmong m s others history) t := (sameOwed_decideHead _).trans (sameOwed_offerReport _ _)
  refine ⟨?_, same.history, same.overflow⟩
  rw [same.owed, enteredAmong_sorted sorted]
  simp only [State.owed, l, List.map_append, List.map_cons, List.filter_map, Function.comp_def, newReport]

/-- Nothing is offered to a call engine in CE_IDLE or in CLOSING (R34). -/
theorem offerReport_outside (r : Report) (out : s.call.state = .idle ∨ s.call.state = .closing) : offerReport r s = s := by
  obtain idle | closing := out
  · simp [offerReport, State.inCall, idle]
  · exact offerReport_closing s closing r

/-- A report entered is offered, and with no call in progress that is all. -/
theorem offerReport_entered (sorted : InOrder others) :
    let t := State.headAnew { s with queue := { s.queue with
      counter := nextSeq s.queue.newSeq, history := history
      reports := others.filter (fun x => notAfter x.matter m)
        ++ newReport s.queue.newSeq m s :: others.filter (fun x => !notAfter x.matter m) } }
    let u := offerReport (newReport s.queue.newSeq m s) (decideHead (enteredAmong m s others history))
    u = offerReport (newReport s.queue.newSeq m s) t ∧ (s.call.state = .idle ∨ s.call.state = .closing → u = t) := by
  intro t u
  have decided : decideHead (enteredAmong m s others history) = t := by
    rw [decideHead_eq_headAnew, enteredAmong_sorted sorted]
  have call : t.call = s.call := by rw [← decided]; exact (headOnly_decideHead _).call
  have offered : u = offerReport (newReport s.queue.newSeq m s) t := by rw [← decided]
  refine ⟨offered, fun out => offered.trans (offerReport_outside _ ?_)⟩
  rw [call]; exact out

end

/-! ### A report offered (R118 to R121) -/

section
variable {r h : Report} {s : State}

/-- Nothing is offered outside a call, and neither is a report that is not eligible, or to a call marked to be suspended (R118). -/
theorem offerReport_not (h : ¬ (s.inCall = true ∧ s.eligible r = true ∧ s.call.suspend = false)) : offerReport r s = s := by
  unfold offerReport
  rw [if_neg]
  simpa [and_assoc] using h

/-- A report offered is sorted by its urgency and its fit (R118). -/
theorem offerReport_offered (offered : s.inCall = true ∧ s.eligible r = true ∧ s.call.suspend = false)
    (head : s.batchHead = some h) :
    offerReport r s =
      if r.matter.cls.rank < h.matter.cls.rank then if s.fitsCall r then insertReport r.seq s else suspendCall s
      else if s.fitsCall r ∧ s.call.batch.length < 4 then appendReport r.seq s else s := by
  obtain ⟨inCall, eligible, suspend⟩ := offered
  simp [offerReport, inCall, eligible, suspend, head]

/-- An eligible report fits a call to its current destination on a line that its mask names (R98). -/
theorem fitsCall_iff (eligible : s.eligible r = true) :
    s.fitsCall r = true ↔ s.call.dest.isSome ∧ s.settings.currentDest r = s.call.dest
      ∧ ∃ l, s.call.line = some l ∧ (s.settings.masks.get r.matter.cls).getLsbD l.val = true := by
  unfold State.fitsCall
  cases s.call.line <;> simp [eligible, Settings.maskNames, and_assoc]

end

end Sys2Proof.Machine

namespace Sys2Proof.Proofs
open Sys2Proof Sys2Proof.Machine

/-- Settles O19: a report placed is entered among the queue's reports or among those the eviction leaves, and what a call makes of
it follows the four branches of the offer. -/
theorem reportPlacedOrRefused : Obligations.Report_placed_or_refused := by
  refine ⟨fun m s sound route word => ?_, fun m s route word full low => ?_, fun m s sound route word => ?_, fun r s => ?_⟩
  · obtain ⟨-, distinct, -, -, sorted, -⟩ := sound
    refine ⟨fun room => ?_, fun before v after reports full may less first last => ?_⟩
    · rw [handReport_of_room m s route word room]
      obtain ⟨owed, history, -⟩ := owed_entered (m := m) (s := s) (history := s.queue.history) sorted
      exact ⟨owed, history⟩
    · rw [reports] at distinct sorted
      rw [handReport_of_victim m s route word full.ge (v := v) (by rw [reports]; exact victim_eq_some may less first last),
        reports, filter_victim distinct]
      exact owed_entered (List.Pairwise.sublist (by simp) sorted)
  · have refused : Refused m s := ⟨route, word, full, low⟩
    have marked : (refusedState m s).queue.overflowMark = true := rfl
    have told := tellTrouble_marked (refusedState m s) .queueOverflow true marked
    rw [handReport_of_refused s m refused]
    refine ⟨rfl, ?_, fun unmarked => ?_⟩
    · split
      · exact marked
      · exact told.2
    · rw [unmarked, if_neg (by decide), told.1, active_noticeOnly, if_pos rfl]
  · obtain ⟨-, distinct, -, -, sorted, -⟩ := sound
    refine ⟨fun room => ?_, fun before v after reports full may less first last => ?_⟩
    · rw [handReport_of_room m s route word room]
      exact offerReport_entered sorted
    · rw [reports] at distinct sorted
      rw [handReport_of_victim m s route word full.ge (v := v) (by rw [reports]; exact victim_eq_some may less first last),
        reports, filter_victim distinct]
      exact offerReport_entered (List.Pairwise.sublist (by simp) sorted)
  · refine ⟨offerReport_not, fun h offered head => ?_⟩
    have fits := fitsCall_iff (r := r) (s := s) offered.2.1
    have engaged : s.call.state ≠ .idle := fun idle => by simp [State.inCall, idle] at offered
    have insert : insertEntry s.call.inFlight ⟨r.seq, 0⟩ s.call.batch = match s.call.batch with
        | [] => [⟨r.seq, 0⟩]
        | b :: rest => if s.call.inFlight then b :: ⟨r.seq, 0⟩ :: rest else ⟨r.seq, 0⟩ :: b :: rest := by
      cases s.call.batch <;> rfl
    rw [offerReport_offered offered head]
    refine ⟨fun less fit => ?_, fun less fit => ?_, fun high fit room => ?_, fun high out => ?_⟩
    · rw [if_pos less, if_pos (fits.2 fit), insertReport_eq engaged, insert]
      rfl
    · rw [if_pos less, if_neg (fun yes => fit (fits.1 yes))]
      rfl
    · rw [if_neg (by omega), if_pos ⟨fits.2 fit, room⟩, appendReport_eq engaged]
      rfl
    · rw [if_neg (by omega), if_neg]
      rintro ⟨yes, room⟩
      rcases out with no | full
      · exact no (fits.1 yes)
      · omega

end Sys2Proof.Proofs
end


section
/-! The head decided at eligible-at and at rest end, and what the access controller makes of a head change (R30, R31, R43, R73, R78,
R81, R86, R87, R93, R94). -/

namespace Sys2Proof.Machine

section
variable {s : State} {k : ReportClass}

theorem permits_iff {l : LineNo} : s.permits k l = true ↔ Permitted s k l := by
  simp [State.permits, Settings.maskNames, Permitted]

/-- Every line is in the rotation from any cursor. -/
theorem mem_rotation (cursor l : LineNo) : l ∈ rotation cursor := by
  revert cursor l; decide

/-- The choice finds a line when a permitted line is IDLE (R74). -/
theorem isSome_firstIdle : (firstIdle s k).isSome = true ↔ ∃ l, Permitted s k l ∧ (s.line l).state = .idle := by
  simp [firstIdle, mem_rotation, permits_iff]

theorem preemptionGoesOn_iff {l : LineNo} {rec : PreemptRecord} {r : Report} :
    preemptionGoesOn s l rec r = true ↔
      r.matter.cls.rank ≤ 1 ∧ Permitted s r.matter.cls l ∧ ∀ o, rec.occupant = some o → r.matter.cls.rank < o.rank := by
  unfold preemptionGoesOn
  cases rec.occupant <;> simp [permits_iff, and_assoc]

end

/-! ### A new head, by access state -/

section
variable {s : State} {r : Report} (head : s.headReport = some r)
include head

theorem accessHeadChange_some : accessHeadChange s = headReplaced r s := by simp [accessHeadChange, head]

theorem accessHeadChange_idle (access : s.access.state = .idle) :
    accessHeadChange s = if s.call.state = .idle then chooseLine s.now s else s := by
  simp [accessHeadChange_some head, headReplaced, access, startAcquisition, head]

theorem accessHeadChange_wait {t0 since : Nat} {waited : Bool} (access : s.access.state = .wait t0 since waited) :
    accessHeadChange s =
      if (firstIdle s r.matter.cls).isSome then chooseLine t0 s else laterPreemptionTest s := by
  simp [accessHeadChange_some head, headReplaced, access]

theorem accessHeadChange_holdoff {t0 h base deadline : Nat} {l : LineNo}
    (access : s.access.state = .holdoff t0 l h base deadline) :
    accessHeadChange s =
      if s.permits r.matter.cls l then
        seizeIfDue (s.setAccess (.holdoff t0 l (holdoffTime s r) base (base + holdoffTime s r)))
      else chooseLine t0 s := by
  simp [accessHeadChange_some head, headReplaced, access]

theorem accessHeadChange_check {t0 : Nat} {l : LineNo} (access : s.access.state = .check t0 l) : accessHeadChange s = s := by
  simp [accessHeadChange_some head, headReplaced, access]

theorem accessHeadChange_preempt {t0 : Nat} {l : LineNo} {rec : PreemptRecord} (access : s.access.state = .preempt t0 l rec) :
    accessHeadChange s =
      if rec.phase = .break ∨ preemptionGoesOn s l rec r = true then s else chooseLine t0 (releaseLine .access .plain l s) := by
  rw [accessHeadChange_some head, headReplaced, access]
  cases h : rec.phase <;> simp [h, releaseAndChoose]

theorem accessHeadChange_granted {t0 q : Nat} {l : LineNo} {passed : List HeldReport}
    (access : s.access.state = .granted t0 l q passed) :
    accessHeadChange s =
      if s.permits r.matter.cls l then s.setAccess (.granted t0 l r.seq passed)
      else chooseLine t0 (releaseLine .access .plain l s) := by
  simp [accessHeadChange_some head, headReplaced, access, releaseAndChoose]

end

/-- The idle seize of a deadline that has passed is the one the deadline's own event makes (R81, R82). -/
theorem exec_holdoffDeadline {s : State} {t0 h base deadline : Nat} {l : LineNo} (running : s.running = true)
    (access : s.access.state = .holdoff t0 l h base deadline) (due : deadline ≤ s.now) :
    exec .holdoffDeadline s = .next (seizeIfDue s) := by
  have isDue : holdoffDue s = true := by simp [holdoffDue, access, running, due]
  have seized : seizeIfDue s = seizeChosen s := by simp [seizeIfDue, access, due]
  rw [seized]
  exact whenDue_true isDue

end Sys2Proof.Machine

namespace Sys2Proof.Proofs
open Sys2Proof Sys2Proof.Machine

/-- Settles O20: both deadlines decide the head anew, and a head change is answered by access state. -/
theorem queuedAndRestingDeadlines : Obligations.Queued_and_resting_deadlines := by
  refine ⟨fun seq r s running here queued due => ?_, ?_, fun s => ?_⟩
  · have isDue : eligibleAtDue seq s = true := by simp [eligibleAtDue, running, here, queued, due]
    have only := headOnly_decideHead s
    refine ⟨decideHead s, whenDue_true isDue, decideHead_eq_headAnew s, ?_, only.kept.settings, only.kept.channels,
      only.call, only.trouble, only.kept.port⟩
    rw [only.queue, head_decideHead, firstEligible_eq_headFirst]
  · intro seq r e s running here resting restEnd due back
    have isDue : restEndDue seq s = true := by simp [restEndDue, running, here, resting, reached, restEnd, due]
    have only := headOnly_decideHead back
    refine ⟨decideHead back, whenDue_true isDue, decideHead_eq_headAnew back, ?_, only.trouble, only.kept.settings,
      only.kept.channels, only.call, only.kept.port⟩
    rw [only.queue, head_decideHead, firstEligible_eq_headFirst]
  · intro to_
    refine ⟨fun none => ?_, fun r head => ?_⟩
    · simp only [accessHeadChange, none, headLost]
      rfl
    intro may
    refine ⟨accessHeadChange_idle head, fun t0 since waited access => ⟨fun some => ?_, fun no => ?_⟩,
      fun t0 l h base deadline access => ⟨fun yes early => ?_, fun yes due running => ?_, fun no => ?_⟩,
      fun t0 l => accessHeadChange_check head, fun t0 l rec access => ⟨fun stays => ?_, fun demanding no => ?_⟩,
      fun t0 l q passed access => ⟨fun yes => ?_, fun no => ?_⟩⟩
    · rw [accessHeadChange_wait head access, if_pos (isSome_firstIdle.2 some)]
    · rw [accessHeadChange_wait head access, if_neg]
      rintro found
      obtain ⟨l, yes, idle⟩ := isSome_firstIdle.1 found
      exact no l yes idle
    · rw [accessHeadChange_holdoff head access, if_pos (permits_iff.2 yes)]
      exact if_neg (by exact Nat.not_le_of_lt early)
    · rw [accessHeadChange_holdoff head access, if_pos (permits_iff.2 yes)]
      exact exec_holdoffDeadline running rfl due
    · rw [accessHeadChange_holdoff head access, if_neg (mt permits_iff.1 no)]
    · rw [accessHeadChange_preempt head access, if_pos (stays.imp_right preemptionGoesOn_iff.2)]
    · rw [accessHeadChange_preempt head access, if_neg]
      rintro (brk | yes)
      · cases demanding.symm.trans brk
      · exact no (preemptionGoesOn_iff.1 yes)
    · rw [accessHeadChange_granted head access, if_pos (permits_iff.2 yes)]
      rfl
    · rw [accessHeadChange_granted head access, if_neg (mt permits_iff.1 no)]

end Sys2Proof.Proofs
end


section
/-! Conditions, their reports and the pending ones (R36, R138 to R143). -/

namespace Sys2Proof.Machine

/-! ### The list of conditions (section 7.1) -/

/-- Every condition stands at its place in the list. -/
theorem getElem?_allConditions (c : Condition) : allConditions[c.index.val]? = some c := by
  have places : ∀ i : Fin 28, allConditions[i.val]?.map Condition.index = some i := by decide
  obtain ⟨d, here, same⟩ := Option.map_eq_some_iff.1 (places c.index)
  rw [here, Condition.index_inj d c same]

theorem mem_allConditions (c : Condition) : c ∈ allConditions := List.mem_of_getElem? (getElem?_allConditions c)

/-! ### A report handed is held, or refused and pending (R34, R36, R141, R142) -/

section
variable (s : State)

theorem exists_placed (r : Report) : ∃ x ∈ (placeReport r s).queue.reports, x.matter = r.matter := by
  have owed : (r.seq, r.matter) ∈ (placeReport r s).owed := by
    rw [(sameOwed_placeReport s r).owed]
    exact List.mem_map.2 ⟨r, mem_insertInOrder.2 (.inl rfl), rfl⟩
  obtain ⟨x, mem, same⟩ := List.mem_map.1 owed
  exact ⟨x, mem, (Prod.mk.inj same).2⟩

/-- A report handed with a route, not covered and not refused, is one of the queue. -/
theorem exists_handed {m : Matter} (route : s.settings.hasRoute m.cls = true) (word : consult m s = none)
    (not : ¬ Refused m s) : ∃ x ∈ (handReport m s).queue.reports, x.matter = m := by
  rw [handReport_of_not_refused m s not]
  have answer := enterReport_of_not_refused m s not
  obtain ⟨no, _⟩ | ⟨_, peer, covered, _⟩ | ⟨_, _, _, h⟩ | ⟨_, _, _, v, _, h⟩ | ⟨_, _, _, _, h⟩ := enterReport_cases s m
  · simp [route] at no
  · simp [word] at covered
  · rw [h]; exact exists_placed _ (newReport s.queue.newSeq m s)
  · rw [h]; exact exists_placed _ (newReport s.queue.newSeq m s)
  · exact absurd (by rw [h]) (answer (!s.queue.overflowMark))

/-- A refused report of a condition becomes its pending one, and then the first refusal makes QUEUE_OVERFLOW active. -/
theorem refusedPending_eq (c : Condition) (m : Matter) :
    overflowBegins (!s.queue.overflowMark) (makePending c m (refusedState m s)) = refusedPending c m s := by
  rw [overflowBegins_eq _ _ rfl, refusedPending]
  cases s.queue.overflowMark <;> rfl

theorem cond_makePending (c : Condition) (m : Matter) :
    (makePending c m s).cond c = { s.cond c with pending := some ⟨m, s.clock, s.trouble.refusals⟩ } :=
  State.cond_setCond s c fun r => { r with pending := some ⟨m, s.clock, s.trouble.refusals⟩ }

theorem cond_makePending_ne (c d : Condition) (m : Matter) (other : d ≠ c) : (makePending c m s).cond d = s.cond d :=
  State.cond_setCond_ne s c d (fun r => { r with pending := some ⟨m, s.clock, s.trouble.refusals⟩ }) other

/-- A notice of one condition leaves the record of another. -/
theorem cond_noticeOnly_ne (c d : Condition) (b : Bool) (other : d ≠ c) : (noticeOnly c b s).1.cond d = s.cond d := by
  have handed (m : Matter) (u : State) : (handTrouble c m u).1.cond d = u.cond d := by
    have kept := cond_enterReport u m d
    unfold handTrouble
    split <;> rename_i e <;> rw [e] at kept
    · exact (cond_makePending_ne _ c d m other).trans kept
    · exact kept
  unfold noticeOnly
  split
  · rfl
  · dsimp only
    split
    · rw [handed, State.cond_setCond_ne _ c d _ other]
    · exact State.cond_setCond_ne _ c d _ other

/-- A refused report stays its condition's pending one, unless the overflow that its refusal begins makes the condition itself
active. -/
theorem cond_refusedPending (c : Condition) (m : Matter)
    (quiet : c ≠ .queueOverflow ∨ s.queue.overflowMark = true ∨ (s.cond c).active = true) :
    (refusedPending c m s).cond c = { s.cond c with pending := some ⟨m, s.clock, s.trouble.refusals⟩ } := by
  have pended : (makePending c m (refusedState m s)).cond c =
      { s.cond c with pending := some ⟨m, s.clock, s.trouble.refusals⟩ } :=
    cond_makePending (refusedState m s) c m
  have marked : (makePending c m (refusedState m s)).queue.overflowMark = true := rfl
  rw [← refusedPending_eq, overflowBegins_eq _ _ marked]
  split
  · rename_i unmarked
    rcases quiet with other | mark | active
    · rw [(tellTrouble_marked _ .queueOverflow true marked).1, cond_noticeOnly_ne _ _ _ _ other, pended]
    · simp [mark] at unmarked
    · by_cases same : c = .queueOverflow
      · subst same
        rw [tellTrouble_same _ .queueOverflow true (by rw [pended]; exact active), pended]
      · rw [(tellTrouble_marked _ .queueOverflow true marked).1, cond_noticeOnly_ne _ _ _ _ same, pended]
  · exact pended

end

/-! ### Notices (R138 to R142) -/

section
variable {c : Condition} {b : Bool} {s : State} (changes : (s.cond c).active ≠ b) (on : s.settings.troubleReporting = true)
include changes on

theorem noticeOnly_reported :
    noticeOnly c b s = handTrouble c (c.report b s.clock) (s.setCond c (·.change b s.clock)) := by
  rw [noticeOnly, if_neg changes, if_pos on]

theorem tellTrouble_of_not_refused (not : ¬ Refused (c.report b s.clock) (s.setCond c (·.change b s.clock))) :
    tellTrouble c b s = handReport (c.report b s.clock) (s.setCond c (·.change b s.clock)) := by
  simp [tellTrouble, noticeOnly_reported changes on, handTrouble_of_not_refused _ _ c not, overflowBegins]

theorem tellTrouble_of_refused (refused : Refused (c.report b s.clock) (s.setCond c (·.change b s.clock))) :
    tellTrouble c b s = refusedPending c (c.report b s.clock) (s.setCond c (·.change b s.clock)) := by
  rw [tellTrouble, noticeOnly_reported changes on, handTrouble_of_refused _ _ c refused]
  exact refusedPending_eq _ _ _

end

/-! ### The report pending longest (R143) -/

section
variable {s : State} {c : Condition} {p : PendingReport} (pending : (s.cond c).pending = some p)
  (first : ∀ b q, b ≠ c → (s.cond b).pending = some q → p.order < q.order)
include pending first

/-- The search finds the report refused first, from any best so far that is no earlier. -/
theorem foldl_olderPending : ∀ (l : List Condition) (best : Option (Condition × PendingReport)),
    best = some (c, p) ∨ (c ∈ l ∧ ∀ x, best = some x → p.order < x.2.order) →
      l.foldl (olderPending s) best = some (c, p)
  | [], best, found => found.resolve_right fun h => (List.not_mem_nil h.1)
  | d :: l, best, found => by
    rw [List.foldl_cons]
    refine foldl_olderPending l _ ?_
    by_cases here : d = c
    · subst here
      left
      rcases found with rfl | ⟨-, later⟩
      · simp [olderPending, pending]
      · cases best with
        | none => simp [olderPending, pending]
        | some x => simp [olderPending, pending, later x rfl]
    · rcases found with rfl | ⟨mem, later⟩
      · left
        cases other : (s.cond d).pending with
        | none => simp [olderPending, other]
        | some q => simp [olderPending, other, (first d q here other).le]
      · refine .inr ⟨(List.mem_cons.1 mem).resolve_left (Ne.symm here), fun x isBest => ?_⟩
        cases other : (s.cond d).pending with
        | none =>
          simp only [olderPending, other] at isBest
          exact later x isBest
        | some q =>
          have earlier := first d q here other
          cases best with
          | none =>
            simp only [olderPending, other, Option.some.injEq] at isBest
            exact isBest ▸ earlier
          | some y =>
            simp only [olderPending, other] at isBest
            split at isBest <;> cases isBest
            · exact earlier
            · exact later _ rfl

theorem oldestPending_eq : oldestPending s = some (c, p) :=
  foldl_olderPending pending first _ _ (.inr ⟨mem_allConditions c, by simp⟩)

/-- The report pending longest is handed again and refused: it stays pending, and no further one is handed (R143). -/
theorem handPending_of_refused (n : Nat) (refused : Refused p.matter s) :
    handPending (n + 1) s = refusedPending c p.matter s := by
  rw [handPending, oldestPending_eq pending first]
  simp only [enterReport_of_refused p.matter s refused]
  exact refusedPending_eq s c p.matter

end

end Sys2Proof.Machine

namespace Sys2Proof.Proofs
open Sys2Proof Sys2Proof.Machine

/-- Settles O22: a notice that changes its condition hands the condition's report, which is refused or not. -/
theorem conditionNotices : Obligations.Condition_notices := by
  refine ⟨fun c active s => ?_, fun n c p s pending first refused => ?_, fun c begins since => ?_⟩
  · intro t r changed m
    have same : changed = s.setCond c (·.change active s.clock) := rfl
    have cls : m.cls = .trouble := rfl
    refine ⟨tellTrouble_same s c active, fun changes off => tellTrouble_silent s c active changes off, fun changes on =>
      ⟨fun not => ?_, fun refused => ?_⟩⟩
    · have handed : t = handReport m changed := tellTrouble_of_not_refused changes on not
      refine ⟨handed, by rw [handed, handReport_of_not_refused m changed not, trouble_enterReport], ?_⟩
      rw [handed]
      split
      · rename_i route
        exact exists_handed changed route (consult_trouble cls changed) not
      · rename_i route
        rw [handReport_of_noRoute m changed (Bool.eq_false_iff.2 route)]
        refine ⟨⟨changed.queue.newSeq, m, .notRouted, changed.clock⟩, ?_, rfl, rfl⟩
        rw [goneToHistory, historyWith_eq]
        simp only [List.mem_append, List.mem_singleton, or_true]
    · have told : t = refusedPending c m changed := tellTrouble_of_refused changes on refused
      refine ⟨told, fun other => ?_⟩
      rw [told]
      refine cond_refusedPending changed c m (other.imp_right fun begins => .inr ?_)
      simp [changed, begins]
  · rw [handPending_of_refused pending first n refused]
    exact ⟨rfl, fun quiet => by rw [cond_refusedPending s c p.matter quiet]⟩
  · intro row
    refine ⟨?_, rfl, getElem?_allConditions c⟩
    cases c <;> simp [row, Condition.report, Condition.event, Condition.group, Condition.source, channelNumber, lineNumber] <;> omega

end Sys2Proof.Proofs
end


section
/-! How a call ends: its line in GUARD, its context cleared, and an acquisition for the head (R40 to R42, R62, R73, R74, R108,
R109). -/

namespace Sys2Proof.Machine

/-! ### Choosing a line (R74) -/

section
variable (s : State)

theorem line_discardStream_ne {l m : LineNo} (other : m ≠ l) : (discardStream l s).line m = s.line m := by
  unfold discardStream raiseGarbled
  split
  · rfl
  · split
    · rfl
    · rw [State.line_setLine_ne _ l m _ other]; rfl

theorem line_seizeLine_ne {l m : LineNo} (check : Bool) (other : m ≠ l) : (seizeLine check l s).line m = s.line m :=
  (State.line_setLine_ne _ l m _ other).trans (line_discardStream_ne s other)

theorem line_awaitLine (t0 : Nat) (l : LineNo) : (awaitLine t0 s).line l = s.line l := by
  obtain ⟨_, h⟩ | ⟨_, _, _, h⟩ | ⟨_, _, _, _, h⟩ := awaitLine_cases s t0 <;> rw [h] <;> rfl

/-- Choosing a line seizes none but an IDLE one. -/
theorem line_chooseLine {l : LineNo} (t0 : Nat) (busy : (s.line l).state ≠ .idle) : (chooseLine t0 s).line l = s.line l := by
  obtain h | ⟨t, m, _, _, _, _, _, accepted, h⟩ := chooseLine_cases s t0
  · rw [h, line_awaitLine]
  · have idle : (s.line m).state = .idle := by
      simp only [idleSeizeAccepted, Bool.and_eq_true, decide_eq_true_eq] at accepted
      exact accepted.1
    have other : l ≠ m := fun eq => busy (eq ▸ idle)
    calc (chooseLine t0 s).line l
        = (seizeLine true m (awaitLine t0 s)).line l := by rw [h]; rfl
      _ = s.line l := by rw [line_seizeLine_ne _ _ other, line_awaitLine]

/-- An acquisition for a head keeps the T0 a line is chosen with (R74). -/
theorem t0_chooseLine (t0 : Nat) (head : s.headReport.isSome) : (chooseLine t0 s).access.state.t0 = some t0 := by
  have awaited : (awaitLine t0 s).access.state.t0 = some t0 := by
    obtain ⟨none, _⟩ | ⟨_, _, _, h⟩ | ⟨_, _, _, _, h⟩ := awaitLine_cases s t0
    · simp [none] at head
    · rw [h]; rfl
    · rw [h]; rfl
  obtain h | ⟨_, _, _, _, _, _, _, _, h⟩ := chooseLine_cases s t0
  · rw [h, awaited]
  · rw [h]; rfl

end

/-! ### A call left (R73, R108) -/

/-- The call context cleared, and an acquisition started for the head (R73, R108). -/
theorem leaveCall_eq (s : State) :
    leaveCall s =
      let u : State := { s with call := freshCall }
      if u.access.state = .idle ∧ u.headReport.isSome then chooseLine u.now u else u := by
  have idle : freshCall.state = .idle := rfl
  simp only [leaveCall, startAcquisition, State.setCall, idle, true_and]

section
variable (s : State)

theorem calm_leaveCall : Calm { s with call := freshCall } (leaveCall s) := calm_startAcquisition _

theorem queue_leaveCall : (leaveCall s).queue = s.queue := (calm_leaveCall s).queue
theorem trouble_leaveCall : (leaveCall s).trouble = s.trouble := (calm_leaveCall s).trouble
theorem call_leaveCall : (leaveCall s).call = freshCall := (calm_leaveCall s).call

theorem line_leaveCall {l : LineNo} (busy : (s.line l).state ≠ .idle) : (leaveCall s).line l = s.line l := by
  rw [leaveCall_eq]
  dsimp only
  split
  · exact line_chooseLine _ _ busy
  · rfl

theorem t0_leaveCall (access : s.access.state = .idle) (head : (leaveCall s).headReport.isSome) :
    (leaveCall s).access.state.t0 = some s.now := by
  rw [(calm_leaveCall s).headReport] at head
  rw [leaveCall_eq]
  dsimp only
  rw [if_pos ⟨access, head⟩]
  exact t0_chooseLine _ _ head

end

/-! ### A line released (R62, R108) -/

section
variable {s : State} {l : LineNo} {b : Holder} (held : (s.line l).state = .held) (holder : (s.line l).holder = some b)
include held holder

/-- A HELD line that its holder releases plainly drops into GUARD, without a holder. -/
theorem line_releaseLine_held :
    let t := releaseLine b .plain l s
    (t.line l).state = .guard ∧ (t.line l).holder = none ∧ (t.line l).noYield = false := by
  intro t
  have dropped : t = dropToGuard false l s := by simp [t, releaseLine, held, holder]
  have line : t.line l = (if toneSounds l (s.setLine l fun ln => { (ln.openRelay s.now .guard none).receiverAnew s.now with noYield := false })
      then Line.resumeReceiver s.now else id) { ((s.line l).openRelay s.now .guard none).receiverAnew s.now with noYield := false } := by
    rw [dropped]
    calc (dropToGuard false l s).line l
        = _ := State.line_setLine _ l _
      _ = _ := by rw [State.line_setLine]; rfl
  rw [line]
  split <;> exact ⟨rfl, rfl, rfl⟩

end

section
variable {s : State} {l : LineNo} (line : s.call.line = some l)
include line

theorem beginClosing_eq : beginClosing s = releaseLine .call .plain l { s with call := { s.call with state := .closing } } := by
  simp [beginClosing, line, State.setCall]

/-- A call that begins to close has released its line. -/
theorem line_beginClosing (held : (s.line l).state = .held) (holder : (s.line l).holder = some .call) :
    ((beginClosing s).line l).state = .guard ∧ ((beginClosing s).line l).holder = none
      ∧ ((beginClosing s).line l).noYield = false := by
  rw [beginClosing_eq line]
  exact line_releaseLine_held (s := { s with call := { s.call with state := .closing } }) held holder

end

theorem access_beginClosing (s : State) : (beginClosing s).access = s.access := by
  unfold beginClosing
  split
  · exact access_releaseLine _ _ _ _
  · rfl

/-! ### The returns of a call that ends (R40, R41, R109) -/

/-- The causes that charge an attempt (R109). -/
def EndCause.charged : EndCause → Bool
  | .noDialTone | .destBusy | .noAnswer | .noAck | .loopLost => true
  | .yielded | .intruded | .suspended | .maintAbort => false

/-- The state in which the reports of a call that ends have been returned, before its context is cleared. -/
def returnedFrom (cause : EndCause) (s : State) : State :=
  if cause.charged then s.call.batch.foldl (fun t e => returnCharged e.seq t) (beginClosing s)
  else s.call.batch.foldl
    (fun t e => returnUncharged (decide (cause = .maintAbort)) (decide (cause = .yielded ∨ cause = .intruded)) e.seq t)
    (beginClosing s)

theorem endCall_eq (cause : EndCause) (s : State) : endCall cause s = leaveCall (returnedFrom cause s) := by
  cases cause <;> rfl

theorem mapReports_returned_nil (clock : Nat) (d c : Bool) (s : State) : mapReports (returned clock d c []) s = s := by
  have same : returned clock d c [] = id := by
    funext x
    simp [returned]
  rw [mapReports, same, List.map_id]

section
variable (cause : EndCause) (s : State)

theorem bookkept_returnedFrom : Bookkept (beginClosing s) (returnedFrom cause s) := by
  unfold returnedFrom
  split
  · exact bookkept_foldl (fun e => returnCharged e.seq) (fun e u => bookkept_returnCharged u e.seq) _ _ (closing_beginClosing s)
  · exact bookkept_foldl (fun e => returnUncharged _ _ e.seq) (fun e u => bookkept_returnUncharged u _ _ e.seq) _ _
      (closing_beginClosing s)

/-- No report of the batch is IN_CALL once they are returned. -/
theorem notInCall_returnedFrom (sound : ∀ r ∈ s.queue.reports, r.state = .inCall → r.seq ∈ s.call.batch.map (·.seq)) :
    ∀ r ∈ (returnedFrom cause s).queue.reports, r.state ≠ .inCall := by
  have outside : ∀ r ∈ (returnedFrom cause s).queue.reports, r.state = .inCall → r.seq ∉ s.call.batch.map (·.seq) := by
    unfold returnedFrom
    split
    · exact notInCall_foldl (fun e => returnCharged e.seq) (fun e u => bookkept_returnCharged u e.seq)
        (fun e u closing => notInCall_returnCharged u closing e.seq) _ _ (closing_beginClosing s)
    · exact notInCall_foldl (fun e => returnUncharged _ _ e.seq) (fun e u => bookkept_returnUncharged u _ _ e.seq)
        (fun e u _ => notInCall_returnUncharged u _ _ e.seq) _ _ (closing_beginClosing s)
  intro r mem st
  have before := (bookkept_returnedFrom cause s).inCall r mem st
  rw [queue_beginClosing] at before
  exact outside r mem st (sound r before st)

/-- What becomes of a report at an end of its call without a charge (R40, R45, R109). -/
def returnedReport : Report → Report :=
  returned s.clock (decide (cause = .maintAbort)) (decide (cause = .yielded ∨ cause = .intruded)) (s.call.batch.map (·.seq))

theorem returnedReport_eq :
    returnedReport cause s = fun x =>
      if x.seq ∈ s.call.batch.map (·.seq) then
        { x with
          state := .queued, eligibleAt := if cause = .maintAbort then s.clock + 5 else s.clock
          contention := if cause = .yielded ∨ cause = .intruded then
              min (x.contention + (s.call.batch.map (·.seq)).count x.seq) 15
            else x.contention }
      else x := by
  funext x
  simp only [returnedReport, returned, decide_eq_true_eq]

/-- Without a charge the reports are returned, the head decided, and nothing else is changed (R40, R109). -/
theorem returnedFrom_uncharged (free : cause.charged = false) :
    returnedFrom cause s =
      let back := mapReports (returnedReport cause s) (beginClosing s)
      if s.call.batch = [] then back else headDecided back := by
  have clock : (beginClosing s).clock = s.clock := (kept_beginClosing s).clock
  have engaged : (beginClosing s).call.state ≠ .idle := by rw [closing_beginClosing]; decide
  rw [returnedFrom, if_neg (by simp [free]), returnsUncharged_eq _ _ _ _ engaged, clock]
  dsimp only
  split
  · rename_i nothing
    rw [returnedReport, nothing]
    exact (mapReports_returned_nil _ _ _ _).symm
  · rfl

end

end Sys2Proof.Machine
end


section
/-! The end of a call (O44). -/
namespace Sys2Proof.Machine

theorem charged_iff (cause : EndCause) : cause.charged = true ↔
    cause = .noDialTone ∨ cause = .destBusy ∨ cause = .noAnswer ∨ cause = .noAck ∨ cause = .loopLost := by
  cases cause <;> decide

end Sys2Proof.Machine

namespace Sys2Proof.Proofs
open Sys2Proof Sys2Proof.Machine

/-- Settles O44: a call ends by closing, the returns of its batch, and leaving; a charged return spaces the next try or rests. -/
theorem callEnds : Obligations.Call_ends := by
  refine ⟨fun cause l s line held holder => ?_, fun seq r s closing here => ?_⟩
  · intro t charged seqs
    have left : t = leaveCall (returnedFrom cause s) := endCall_eq cause s
    have kept : Kept s t := kept_endCall s cause
    have book := bookkept_returnedFrom cause s
    have now : (returnedFrom cause s).now = s.now := book.now.trans (kept_beginClosing s).now
    obtain ⟨guard, noHolder, noYield⟩ := line_beginClosing line held holder
    have lineLeft : t.line l = (beginClosing s).line l := by
      have same : (returnedFrom cause s).line l = (beginClosing s).line l := book.line l
      rw [left, line_leaveCall _ (by rw [same, guard]; decide), same]
    have leaves : t = (let u : State := { returnedFrom cause s with call := freshCall }
        if u.access.state = .idle ∧ u.headReport.isSome then chooseLine s.now u else u) := by
      rw [left, leaveCall_eq]
      dsimp only
      rw [now]
    refine ⟨by rw [left, call_leaveCall], by rw [lineLeft, guard], by rw [lineLeft, noHolder], by rw [lineLeft, noYield],
      kept.settings, kept.channels, kept.port, fun access head => ?_, fun sound => ?_, fun isCharged => ?_, fun free => ?_⟩
    · have idle : (returnedFrom cause s).access.state = .idle := by rw [book.access, access_beginClosing]; exact access
      rw [left] at head ⊢
      rw [t0_leaveCall _ idle head, now]
    · rw [left, queue_leaveCall]
      exact notInCall_returnedFrom cause s sound
    · have returned : returnedFrom cause s = s.call.batch.foldl (fun u e => returnCharged e.seq u)
          (releaseLine .call .plain l { s with call := { s.call with state := .closing } }) := by
        rw [returnedFrom, if_pos ((charged_iff cause).2 isCharged), beginClosing_eq line]
      rw [← returned]
      exact ⟨by rw [left, queue_leaveCall], by rw [left, trouble_leaveCall], leaves⟩
    · have notCharged : cause.charged = false := by simpa using mt (charged_iff cause).1 free
      intro back returned
      have isBack : mapReports (returnedReport cause s) (beginClosing s) = back := by
        rw [mapReports, queue_beginClosing, beginClosing_eq line, returnedReport_eq]
      have isReturned : returnedFrom cause s = returned := by
        rw [returnedFrom_uncharged cause s notCharged, isBack]
        simp only [returned]
        rw [← firstEligible_eq_headFirst]
        rfl
      have trouble : (returnedFrom cause s).trouble = s.trouble := by
        rw [returnedFrom_uncharged cause s notCharged]
        dsimp only
        split <;> exact (sameOwed_beginClosing s).trouble
      rw [← isReturned]
      exact ⟨by rw [left, trouble_leaveCall, trouble], by rw [left, queue_leaveCall], leaves⟩
  · intro n back
    have decided (f : Report → Report) : decideHead (s.setReport seq f) = back f :=
      decideHead_engaged (by simp [State.setReport, closing])
    obtain ⟨none, _⟩ | ⟨x, here', low, e⟩ | ⟨x, here', high, e⟩ := returnCharged_cases s seq
    · cases none.symm.trans here
    · cases here.symm.trans here'
      rw [if_pos (by exact low), e, decided]
      rfl
    · cases here.symm.trans here'
      rw [if_neg (by exact Nat.not_lt_of_le high)]
      refine ⟨by rw [e, decided], ?_⟩
      rw [e, active_tellTrouble _ _ _ _ (by decide), if_pos rfl]

end Sys2Proof.Proofs
end


section
/-! A report that leaves the queue by delivery or coverage, and what is made of the freed place (R37, R39, R47, R143). -/

namespace Sys2Proof.Machine

/-! ### The freed place (R37, R143) -/

section
variable {s : State}

theorem oldestPending_none (nothing : ∀ c, (s.cond c).pending = none) : oldestPending s = none := by
  have skip : ∀ l : List Condition, l.foldl (olderPending s) none = none := by
    intro l
    induction l with
    | nil => rfl
    | cons c l ih => simpa [olderPending, nothing c] using ih
  exact skip _

/-- With no report pending, or no place, none is handed. -/
theorem handPending_quiet (n : Nat) (quiet : n = 0 ∨ ∀ c, (s.cond c).pending = none) : handPending n s = s := by
  cases n with
  | zero => rfl
  | succ n =>
    have nothing := quiet.resolve_left (by omega)
    simp [handPending, oldestPending_none nothing]

/-- Where there is room the report pending longest is handed and pends no more, and then the others (R143). -/
theorem handPending_of_room {c : Condition} {p : PendingReport} (n : Nat) (pending : (s.cond c).pending = some p)
    (room : s.queue.reports.length < 32) (first : ∀ b q, b ≠ c → (s.cond b).pending = some q → p.order < q.order) :
    handPending (n + 1) s = handPending n ((handReport p.matter s).setCond c fun x => { x with pending := none }) := by
  have not : ¬ Refused p.matter s := fun refused => by
    obtain ⟨-, -, full, -⟩ := refused
    omega
  have answer := enterReport_of_not_refused p.matter s not
  rw [handPending, oldestPending_eq pending first, handReport_of_not_refused p.matter s not]
  dsimp only
  split
  · rename_i e; exact absurd (by rw [e]) (answer _)
  · rename_i e; rw [e]

theorem afterRemoval_full (full : 32 ≤ s.queue.reports.length) : afterRemoval s = s := by
  unfold afterRemoval
  dsimp only
  rw [if_neg (by omega), if_neg (by omega)]

/-- With no overflow in force and no report pending, a freed place changes nothing. -/
theorem afterRemoval_quiet (unmarked : s.queue.overflowMark = false) (nothing : ∀ c, (s.cond c).pending = none) :
    afterRemoval s = s := by
  have quiet (n : Nat) : handPending n s = s := handPending_quiet n (.inr nothing)
  simp [afterRemoval, unmarked, quiet]

end

/-! ### A report removed (R39, R47) -/

/-- The queue without a report, which is written to the history. -/
def writtenOff (r : Report) (fate : Fate) (s : State) : State :=
  { s with queue := { s.queue with
    reports := s.queue.reports.filter fun x => decide (x.seq ≠ r.seq)
    history := s.historyWith ⟨r.seq, r.matter, fate, s.clock⟩ } }

section
variable (r : Report) (fate : Fate) (s : State)

theorem removeReport_eq : removeReport r fate s = afterRemoval (writtenOff r fate s).headAnew := by
  rw [removeReport, decideHead_eq_headAnew, writeHistory_eq]
  rfl

theorem removeReport_engaged (engaged : s.call.state ≠ .idle) :
    removeReport r fate s = afterRemoval (headDecided (writtenOff r fate s)) := by
  rw [removeReport_eq, ← decideHead_eq_headAnew, decideHead_engaged (by exact engaged)]

variable {r s}

/-- A delivery in a call (R39). -/
theorem deliver_engaged {q : Nat} (l : LineNo) (d : DestId) (engaged : s.call.state ≠ .idle) (here : s.report q = some r) :
    deliver q (some l) (some d) s = afterRemoval (headDecided (writtenOff r (.delivered l d) s)) := by
  simp only [deliver, here]
  exact removeReport_engaged r _ s engaged

end

end Sys2Proof.Machine
end


section
/-! An ACK that counts (R105, R107, R108, R121, R144). -/

namespace Sys2Proof.Machine

/-- The call without the block acknowledged (R105, R107). -/
def acked (s : State) : State := s.setCall (ackedCall s.now)

/-- A call at its end, its line released and the acknowledged block delivered (R105, R108). -/
def lastDelivered (e : BatchEntry) (s : State) : State :=
  deliver e.seq s.call.line s.call.dest (beginClosing (acked s))

theorem bookkept_lastDelivered (e : BatchEntry) (s : State) : Bookkept (beginClosing (acked s)) (lastDelivered e s) :=
  bookkept_deliver _ _ _ _ (closing_beginClosing _)

theorem closing_lastDelivered (e : BatchEntry) (s : State) : (lastDelivered e s).call.state = .closing :=
  (bookkept_lastDelivered e s).closing (closing_beginClosing _)

/-- An ACK finds the call in AWAIT_ACK, or in a pause. -/
theorem engaged_acked (s : State) : (acked s).call.state ≠ .idle := by
  simp only [acked, State.setCall, ackedCall]
  split <;> decide

section
variable {s : State} {e : BatchEntry} {rest : List BatchEntry} (batch : s.call.batch = e :: rest)
include batch

/-- With reports left and no suspend mark the call goes on (R107). -/
theorem countAck_goes_on (more : rest ≠ []) (unmarked : s.call.suspend = false) :
    countAck s = deliver e.seq s.call.line s.call.dest (acked s) := by
  simp [countAck, batch, more, unmarked, acked]

/-- With no report left the call has ended, and succeeded (R108, R144). -/
theorem countAck_last (last : rest = []) : countAck s = leaveCall (callSucceeded (lastDelivered e s)) := by
  subst last
  simp [countAck, batch, lastDelivered, acked]

theorem batch_lastDelivered : (lastDelivered e s).call.batch = rest := by
  rw [(bookkept_lastDelivered e s).call, batch_beginClosing]
  simp [acked, State.setCall, ackedCall, batch]

/-- With the suspend mark set the call ends SUSPENDED, and the others return without charge (R40, R121). -/
theorem countAck_suspended (more : rest ≠ []) (marked : s.call.suspend = true) :
    countAck s = leaveCall (headDecided (mapReports
      (returned (lastDelivered e s).clock false false (rest.map (·.seq))) (lastDelivered e s))) := by
  have engaged : (lastDelivered e s).call.state ≠ .idle := by rw [closing_lastDelivered]; decide
  have back := returnsUncharged_eq false false rest (lastDelivered e s) engaged
  rw [if_neg more] at back
  rw [← back]
  simp only [countAck, batch, List.isEmpty_iff, more, marked, if_false, if_true]
  rw [← batch_lastDelivered batch]
  rfl

/-- A call that an ACK ends leaves from a state that its closing leads to. -/
theorem countAck_ends (ends : rest = [] ∨ s.call.suspend = true) :
    ∃ v, Bookkept (beginClosing (acked s)) v ∧ countAck s = leaveCall v := by
  have delivered := bookkept_lastDelivered e s
  have closing := closing_lastDelivered e s
  by_cases last : rest = []
  · exact ⟨_, delivered.trans (bookkept_callSucceeded _ closing), countAck_last batch last⟩
  · refine ⟨_, delivered.trans ?_, countAck_suspended batch last (ends.resolve_left last)⟩
    have back := bookkept_foldl (fun b => returnUncharged false false b.seq)
      (fun b u => bookkept_returnUncharged u _ _ b.seq) rest _ closing
    rwa [returnsUncharged_eq false false rest _ (by rw [closing]; decide), if_neg last] at back

/-- A call that an ACK ends has dropped its line into GUARD (R62, R108). -/
theorem line_countAck_ends {l : LineNo} (ends : rest = [] ∨ s.call.suspend = true) (line : s.call.line = some l)
    (held : (s.line l).state = .held) (holder : (s.line l).holder = some .call) :
    (countAck s).call = freshCall ∧ ((countAck s).line l).state = .guard ∧ ((countAck s).line l).holder = none := by
  obtain ⟨v, book, left⟩ := countAck_ends batch ends
  obtain ⟨guard, noHolder, -⟩ := line_beginClosing (s := acked s) line held holder
  have same : v.line l = (beginClosing (acked s)).line l := book.line l
  rw [left, line_leaveCall v (by rw [same, guard]; decide), same]
  exact ⟨call_leaveCall v, guard, noHolder⟩

end

theorem callSucceeded_eq (s : State) :
    callSucceeded s = if ∃ x ∈ s.queue.reports, x.state = .resting then s else tellTrouble .commFail false s := by
  simp [callSucceeded, State.anyResting]

end Sys2Proof.Machine

namespace Sys2Proof.Proofs
open Sys2Proof Sys2Proof.Machine

/-- Settles O45: an ACK that counts delivers the block, and by the batch and the suspend mark the call goes on or ends. -/
theorem acknowledgedBlockIsDelivered : Obligations.Acknowledged_block_is_delivered := by
  refine ⟨fun s l d e rest r active batch here line dest held holder => ?_, fun s => ?_⟩
  · intro left after ackedNow delivered ended leave returned t
    have isAcked : acked s = { s with call := ackedNow } := by
      simp only [acked, State.setCall, ackedCall, batch]
      rfl
    have seq : r.seq = e.seq := (report_mem here).2
    have closing : beginClosing (acked s) =
        releaseLine .call .plain l { s with call := { ackedNow with state := .closing } } := by
      rw [isAcked, beginClosing_eq (by exact line)]
    have closed : Calm { s with call := { ackedNow with state := .closing } } (beginClosing (acked s)) := by
      rw [closing]; exact calm_releaseLine _ _ _ _
    have closingQueue : (beginClosing (acked s)).queue = s.queue := closed.queue
    have closingClock : (beginClosing (acked s)).clock = s.clock := closed.kept.clock
    have written (u : State) (queue : u.queue = s.queue) (clock : u.clock = s.clock) :
        headDecided (writtenOff r (.delivered l d) u) =
          { u with queue := { after none with head := ({ u with queue := after none } : State).firstEligible } } := by
      simp only [headDecided, writtenOff, State.historyWith, queue, clock, seq, after, left]
      rfl
    have delivers (u : State) (queue : u.queue = s.queue) (clock : u.clock = s.clock) (engaged : u.call.state ≠ .idle) :
        deliver e.seq s.call.line s.call.dest u = delivered u := by
      have here' : u.report e.seq = some r := by rw [State.report, queue]; exact here
      rw [line, dest, deliver_engaged l d engaged here', written u queue clock]
    have endedEq : lastDelivered e s = ended := by
      rw [lastDelivered, delivers _ closingQueue closingClock (by rw [closing_beginClosing]; decide), closing]
    have endedClock : ended.clock = s.clock := by
      rw [← endedEq, lastDelivered, (kept_deliver _ _ _ _).clock, closingClock]
    have leaves (u : State) : leaveCall u = leave u := leaveCall_eq u
    have goesOn (more : rest ≠ []) (unmarked : s.call.suspend = false) : t = delivered { s with call := ackedNow } := by
      rw [← isAcked]
      exact (countAck_goes_on batch more unmarked).trans (delivers _ (by rw [isAcked]) (by rw [isAcked]; rfl) (engaged_acked s))
    have lastOne (last : rest = []) : t = leave
        (if ∃ x ∈ ended.queue.reports, x.state = .resting then ended else tellTrouble .commFail false ended) := by
      rw [← leaves, ← callSucceeded_eq, ← endedEq]
      exact countAck_last batch last
    have suspended (more : rest ≠ []) (marked : s.call.suspend = true) :
        t = leave (returned (returned none).firstEligible) := by
      rw [← leaves]
      refine (countAck_suspended batch more marked).trans (congrArg leaveCall ?_)
      rw [endedEq]
      simp only [headDecided, mapReports, endedClock]
      rfl
    refine ⟨goesOn, lastOne, suspended, fun ends => line_countAck_ends batch ends line held holder, fun unmarked nothing => ?_⟩
    · have quiet (u : State) (trouble : u.trouble = s.trouble) : delivered u =
          { u with queue := { after none with head := ({ u with queue := after none } : State).firstEligible } } :=
        afterRemoval_quiet unmarked (fun c => by
          rw [State.cond]
          exact (congrArg (fun x : TroubleUnit => (x.list[c.index.val]'c.index.isLt).pending) trouble).trans (nothing c))
      have endedIs : ended = delivered (beginClosing (acked s)) := congrArg delivered closing.symm
      rw [quiet _ closed.trouble] at endedIs
      have endedQueue : ended.queue = after ended.queue.head := by rw [endedIs]
      have endedTrouble : ended.trouble = s.trouble := by rw [endedIs]; exact closed.trouble
      refine ⟨fun more unmarked' => ?_, fun last inactive => ?_, fun more marked => ?_⟩
      · exact (goesOn more unmarked').trans (quiet { s with call := ackedNow } rfl)
      · have same : ended.cond .commFail = s.cond .commFail := by rw [State.cond, State.cond, endedTrouble]
        have left' : t = leaveCall ended := by
          rw [lastOne last, tellTrouble_same _ _ _ (by rw [same, inactive]), ite_self, leaves]
        rw [left', queue_leaveCall, trouble_leaveCall]
        exact ⟨endedQueue, endedTrouble⟩
      · have left' : t = leaveCall (returned (returned none).firstEligible) := by rw [suspended more marked, leaves]
        rw [left', queue_leaveCall, trouble_leaveCall]
        refine ⟨endedTrouble, ?_⟩
        simp only [returned]
        rw [endedQueue]
  · refine ⟨?_, fun n => handPending_quiet n, fun n c p pending room first => handPending_of_room n pending room first⟩
    intro ended
    refine ⟨afterRemoval_full, fun room => ?_⟩
    unfold afterRemoval
    exact if_pos room

end Sys2Proof.Proofs
end


section
/-! The reports that a peer's standing word covers, written off one after another (R39, R47, R48, R133). -/

namespace Sys2Proof.Machine

/-! ### The newest entries of the history (R48) -/

theorem drop_append_drop {α : Type} (n : Nat) (a b : List α) :
    (a.drop (a.length - n) ++ b).drop ((a.drop (a.length - n) ++ b).length - n) = (a ++ b).drop ((a ++ b).length - n) := by
  by_cases few : a.length ≤ n
  · rw [Nat.sub_eq_zero_of_le few, List.drop_zero]
  · have fewer : a.length - n ≤ a.length := by omega
    have length : (a.drop (a.length - n) ++ b).length - n = b.length := by
      rw [List.length_append, List.length_drop]; omega
    have whole : (a ++ b).length - n = a.length - n + b.length := by rw [List.length_append]; omega
    rw [length, whole, ← List.drop_drop, List.drop_append_of_le_length fewer]

/-- The history as it stands holds the newest 64 of what was written to it (R48). -/
theorem historyWith_eq_drop (s : State) (e : HistoryEntry) :
    s.historyWith e = (s.queue.history ++ [e]).drop ((s.queue.history ++ [e]).length - 64) := by
  have few : s.queue.history.length - 63 ≤ s.queue.history.length := by omega
  rw [historyWith_eq, List.length_append, List.length_singleton, Nat.add_sub_add_right _ 1 63,
    List.drop_append_of_le_length few]

/-! ### One report covered (R47) -/

/-- Reports of different numbers are found by them. -/
theorem report_of_mem {s : State} (distinct : (s.queue.reports.map (·.seq)).Nodup) {r : Report} (mem : r ∈ s.queue.reports) :
    s.report r.seq = some r := by
  obtain ⟨x, found⟩ : ∃ x, s.report r.seq = some x :=
    Option.isSome_iff_exists.1 (List.find?_isSome.2 ⟨r, mem, by simp⟩)
  obtain ⟨here, seq⟩ := report_mem found
  rw [found, List.inj_on_of_nodup_map distinct here mem seq]

theorem coverReport_of_report {s : State} {r : Report} {peer q : Nat} (here : s.report q = some r) :
    coverReport peer q s = if r.state = .inCall then s else removeReport r (.covered peer) s := by
  simp [coverReport, here]

/-- What a removal leaves, with no overflow in force and no trouble report pending. -/
theorem removeReport_quiet {s : State} (r : Report) (fate : Fate) (unmarked : s.queue.overflowMark = false)
    (nothing : ∀ c, (s.cond c).pending = none) :
    let t := removeReport r fate s
    t.queue.reports = s.queue.reports.filter (fun x => decide (x.seq ≠ r.seq))
      ∧ t.queue.history = s.historyWith ⟨r.seq, r.matter, fate, s.clock⟩
      ∧ t.queue.overflowMark = false ∧ t.trouble = s.trouble ∧ t.clock = s.clock := by
  intro t
  have only : HeadOnly (writtenOff r fate s) (decideHead (writtenOff r fate s)) := headOnly_decideHead _
  have same : t = decideHead (writtenOff r fate s) := by
    rw [decideHead_eq_headAnew]
    refine (removeReport_eq r fate s).trans (afterRemoval_quiet ?_ fun c => ?_) <;> rw [← decideHead_eq_headAnew]
    · rw [only.overflowMark]; exact unmarked
    · rw [only.cond]; exact nothing c
  rw [same, only.reports, only.history, only.overflowMark, only.trouble, only.kept.clock]
  exact ⟨rfl, rfl, unmarked, rfl, rfl⟩

/-! ### All of them, in queue order (R133) -/

/-- The reports covered leave the queue and are the history's newest entries, where no freed place is used. -/
theorem coverReports_quiet (peer : Nat) : ∀ (l : List Report) (s : State), s.queue.overflowMark = false →
    (∀ c, (s.cond c).pending = none) → (s.queue.reports.map (·.seq)).Nodup → s.queue.history.length ≤ 64 →
    (l.map (·.seq)).Nodup → (∀ r ∈ l, r ∈ s.queue.reports ∧ r.state ≠ .inCall) →
    let t := l.foldl (fun u r => coverReport peer r.seq u) s
    let all := s.queue.history ++ l.map fun r => ⟨r.seq, r.matter, .covered peer, s.clock⟩
    t.queue.reports = s.queue.reports.filter (fun x => decide (x.seq ∉ l.map (·.seq)))
      ∧ t.queue.history = all.drop (all.length - 64) ∧ t.trouble = s.trouble
  | [], s, _, _, _, few, _, _ => by
    have no : s.queue.history.length - 64 = 0 := by omega
    simp [no]
  | r :: l, s, unmarked, nothing, distinct, few, different, here => by
    intro t all
    obtain ⟨mem, out⟩ := here r (by simp)
    obtain ⟨notAgain, others⟩ := List.nodup_cons.1 different
    obtain ⟨reports, history, unmarked', trouble, clock⟩ := removeReport_quiet r (.covered peer) unmarked nothing
    have first : coverReport peer r.seq s = removeReport r (.covered peer) s := by
      rw [coverReport_of_report (report_of_mem distinct mem), if_neg out]
    have rest := coverReports_quiet peer l (removeReport r (.covered peer) s) unmarked'
      (fun c => by rw [State.cond, trouble]; exact nothing c)
      (by rw [reports]; exact distinct.sublist (List.filter_sublist.map _))
      (by rw [history]; exact length_historyWith s _) others
      (fun x later => by
        obtain ⟨mem', out'⟩ := here x (List.mem_cons_of_mem _ later)
        refine ⟨?_, out'⟩
        rw [reports, List.mem_filter]
        exact ⟨mem', decide_eq_true fun eq => notAgain (List.mem_map.2 ⟨x, later, eq⟩)⟩)
    have step : t = l.foldl (fun u r => coverReport peer r.seq u) (removeReport r (.covered peer) s) := by rw [← first]; rfl
    rw [step]
    obtain ⟨left, newest, told⟩ := rest
    refine ⟨?_, ?_, told.trans trouble⟩
    · rw [left, reports, List.filter_filter]
      refine List.filter_congr fun x _ => ?_
      simp only [List.map_cons, List.mem_cons, not_or, Bool.decide_and, Bool.and_comm]
    · rw [newest, history, clock, historyWith_eq_drop, drop_append_drop]
      simp only [all, List.map_cons, List.append_assoc, List.singleton_append]

end Sys2Proof.Machine
end


section
/-! A peer's acknowledgement that counts: the entry, the coverage and the re-assert (R130, R132, R133, R135). -/

namespace Sys2Proof.Machine

/-! ### The entry acknowledged (R130) -/

/-- The heard table with an entry acknowledged, last of all that have been. -/
def heardAcked (e : HeardEntry) (s : State) : State :=
  { s with listener := { s.listener with
    heard := s.listener.heard.map fun x => if x.key = e.key then e.acked (s.listener.ackCount + 1) else x
    ackCount := s.listener.ackCount + 1 } }

section
variable {l : LineNo} {s : State} {a : Awaiting} (awaited : (s.decoder l).awaiting = some a)
include awaited

theorem peerAck_late (late : a.deadline < s.now) : peerAck l s = s := by
  simp [peerAck, awaited, Nat.not_le_of_lt late]

theorem peerAck_unnamed (inTime : s.now ≤ a.deadline) (names : a.names = none) :
    peerAck l s = s.setDecoder l fun d => { d with awaiting := none } := by
  simp [peerAck, awaited, inTime, names]

theorem peerAck_named {k : HeardKey} (inTime : s.now ≤ a.deadline) (names : a.names = some k) :
    peerAck l s = acknowledgeHeard k (s.setDecoder l fun d => { d with awaiting := none }) := by
  simp [peerAck, awaited, inTime, names]

end

/-- In a table in which an entry has replaced those of its key, it is the one found by that key. -/
theorem find?_replaced {table : List HeardEntry} {e w : HeardEntry} (here : e ∈ table) (key : w.key = e.key) :
    (table.map fun x => if x.key = e.key then w else x).find? (fun x => x.key = e.key) = some w := by
  obtain ⟨x, found⟩ : ∃ x, (table.map fun x => if x.key = e.key then w else x).find? (fun x => x.key = e.key) = some x :=
    Option.isSome_iff_exists.1 (List.find?_isSome.2
      ⟨w, List.mem_map.2 ⟨e, here, if_pos rfl⟩, by rw [decide_eq_true_eq]; exact key⟩)
  obtain ⟨y, -, rfl⟩ := List.mem_map.1 (List.mem_of_find?_eq_some found)
  have same := List.find?_some found
  rw [decide_eq_true_eq] at same
  rw [found]
  split
  · rfl
  · rename_i other
    rw [if_neg other] at same
    exact absurd same other

/-- With every key once in the table, the entry acknowledged is the one named. -/
theorem acknowledgeHeard_eq {s : State} {e : HeardEntry} (distinct : (s.listener.heard.map (·.key)).Nodup)
    (here : e ∈ s.listener.heard) :
    acknowledgeHeard e.key s = actOnAcknowledged (e.acked (s.listener.ackCount + 1)) (heardAcked e s) := by
  have same (x : HeardEntry) (mem : x ∈ s.listener.heard) :
      (if x.key = e.key then x.acked (s.listener.ackCount + 1) else x) =
        if x.key = e.key then e.acked (s.listener.ackCount + 1) else x := by
    split
    · rename_i key; rw [List.inj_on_of_nodup_map distinct mem here key]
    · rfl
  have table : (s.listener.heard.map fun x => if x.key = e.key then x.acked (s.listener.ackCount + 1) else x) =
      s.listener.heard.map fun x => if x.key = e.key then e.acked (s.listener.ackCount + 1) else x :=
    List.map_congr_left same
  have found := find?_replaced (w := e.acked (s.listener.ackCount + 1)) here rfl
  simp only [acknowledgeHeard, State.setHeard, table, found]
  rfl

/-! ### Coverage and re-assert (R47, R133, R135) -/

theorem rank_le_two_iff (c : ReportClass) : coverable c = true ↔ c.rank ≤ 2 := by cases c <;> decide

/-- A report waits in the queue or rests unless it is IN_CALL. -/
theorem waits_iff (st : ReportState) : (st = .queued ∨ st = .resting) ↔ st ≠ .inCall := by cases st <;> decide

theorem sharedGroup_iff {set : Settings} {g : Nat} : set.sharedGroup g = true ↔ g ≠ 0 ∧ g ∈ set.shared := by
  simp [Settings.sharedGroup]

/-- What an acknowledgement of an entry covers (R133). -/
theorem coveredReports_eq (e : HeardEntry) (s : State) :
    coveredReports e s = s.queue.reports.filter fun r => decide (r.state ≠ .inCall ∧ r.matter.cls = e.key.cls
      ∧ e.key.cls.rank ≤ 2 ∧ r.matter.qualifier.kind = e.key.kind ∧ r.matter.group = e.key.group
      ∧ e.heard ≤ r.matter.occurred + s.settings.coverage ∧ r.matter.occurred ≤ e.heard + s.settings.coverage) := by
  refine List.filter_congr fun r _ => ?_
  rw [Bool.eq_iff_iff]
  simp only [Bool.and_eq_true, Bool.or_eq_true, decide_eq_true_eq, waits_iff, rank_le_two_iff, withinWindow, and_assoc]
  refine and_congr_right fun _ => and_congr_right fun cls => ?_
  rw [cls]

section
variable (e : HeardEntry) (s : State)

theorem actOnAcknowledged_stands (shared : s.settings.sharedGroup e.key.group = true)
    (word : s.standingWord e.key.cls e.key.group = some e) :
    actOnAcknowledged e s =
      contradict e ((coveredReports e s).foldl (fun t r => coverReport e.key.station r.seq t) s) :=
  if_pos ⟨shared, word⟩

theorem contradict_of_not_restore (kind : e.key.kind ≠ .restore) : contradict e s = s := if_neg kind

theorem contradict_none (none : allChannels.find? (contradicted e s) = none) : contradict e s = s := by
  simp [contradict, none]

/-- A re-assert is that of the lowest channel contradicted, whose class and group are the entry's (R135). -/
theorem contradict_some {c : ChannelNo} (found : allChannels.find? (contradicted e s) = some c) :
    contradict e s =
      if e.key.kind ≠ .restore ∨ alarmOwed e.key.cls e.key.group s = true then s
      else handReport ⟨e.key.cls, .reassert, (s.chanSettings c).event, e.key.group, .channel c, none, s.clock⟩
        (s.setChan c fun ch => { ch with lastKind := .alarm }) := by
  have isOne := List.find?_some found
  simp only [contradicted, Bool.and_eq_true, decide_eq_true_eq] at isOne
  obtain ⟨⟨-, cls⟩, group⟩ := isOne
  by_cases kind : e.key.kind = .restore
  · simp [contradict, kind, found, reassert, cls, group]
  · rw [contradict_of_not_restore e s kind, if_pos (.inl kind)]

theorem heard_actOnAcknowledged : (actOnAcknowledged e s).listener.heard = s.listener.heard := by
  have reasserted (c : ChannelNo) (u : State) : (reassert c u).listener.heard = u.listener.heard :=
    (kept_handReport _ _).heard
  have contradicts (u : State) : (contradict e u).listener.heard = u.listener.heard := by
    unfold contradict
    split
    · split
      · rfl
      · split
        · rfl
        · exact reasserted _ u
    · rfl
  unfold actOnAcknowledged
  split
  · rw [contradicts]
    exact (Kept.foldl (fun (t : State) (r : Report) => coverReport e.key.station r.seq t)
      (fun t r => kept_coverReport t _ _) _ s).heard
  · rfl

end

end Sys2Proof.Machine

namespace Sys2Proof.Proofs
open Sys2Proof Sys2Proof.Machine

/-- Settles O49: an acknowledgement in time marks the entry it names, and a standing word of a shared group covers, then
contradicts. -/
theorem peerAcknowledgementCounts : Obligations.Peer_acknowledgement_counts := by
  intro l s a awaited took
  refine ⟨peerAck_late awaited, peerAck_unnamed awaited, fun e inTime names heardSound queueSound here => ?_⟩
  intro order word marked covered contradicted' stands
  obtain ⟨-, keys, -⟩ := heardSound
  obtain ⟨-, distinct, -, -, -, few⟩ := queueSound
  have acts : peerAck l s = actOnAcknowledged word marked :=
    (peerAck_named awaited inTime names).trans (acknowledgeHeard_eq (s := took) keys here)
  have isCovered : coveredReports word marked = s.queue.reports.filter covered := coveredReports_eq word marked
  have acted (yes : stands) : peerAck l s = contradict word
      ((s.queue.reports.filter covered).foldl (fun t r => coverReport e.key.station r.seq t) marked) := by
    obtain ⟨nonzero, shared, stand⟩ := yes
    rw [acts, actOnAcknowledged_stands word marked (sharedGroup_iff.2 ⟨nonzero, shared⟩) stand, isCovered]
  refine ⟨by rw [acts, heard_actOnAcknowledged], fun no => ?_, fun yes kind unmarked nothing => ?_, fun yes => ?_⟩
  · rw [acts]
    refine if_neg fun yes => no ?_
    obtain ⟨shared, stand⟩ := yes
    obtain ⟨nonzero, shared⟩ := sharedGroup_iff.1 shared
    exact ⟨nonzero, shared, stand⟩
  · rw [acted yes, contradict_of_not_restore word _ kind]
    have quiet := coverReports_quiet e.key.station (s.queue.reports.filter covered) marked unmarked nothing distinct few
      (distinct.sublist (List.filter_sublist.map _)) (fun r mem => by
        obtain ⟨mem, is⟩ := List.mem_filter.1 mem
        exact ⟨mem, (of_decide_eq_true is).1⟩)
    obtain ⟨reports, history, trouble⟩ := quiet
    refine ⟨reports.trans (List.filter_congr fun r mem => ?_), history, trouble⟩
    have among : r.seq ∈ (s.queue.reports.filter covered).map (·.seq) ↔ covered r = true := by
      rw [List.mem_map]
      constructor
      · rintro ⟨x, mem', seq⟩
        obtain ⟨mem', is⟩ := List.mem_filter.1 mem'
        rwa [← List.inj_on_of_nodup_map distinct mem' mem seq]
      · exact fun is => ⟨r, List.mem_filter.2 ⟨mem, is⟩, rfl⟩
    rw [Bool.eq_iff_iff]
    simp [among]
  · intro cover u owedAlarm
    have each : (fun (t : State) (r : Report) => coverReport e.key.station r.seq t) = cover := by
      funext t r
      simp only [cover, coverReport]
      cases t.report r.seq with
      | none => rfl
      | some x =>
        dsimp only
        rw [removeReport_eq]
        rfl
    have kept : Kept marked u := by
      simp only [u, ← each]
      exact Kept.foldl (fun (t : State) (r : Report) => coverReport e.key.station r.seq t)
        (fun t r => kept_coverReport t _ _) _ marked
    have isContradicted : contradicted word u = contradicted' := by
      funext c
      rw [Bool.eq_iff_iff]
      simp only [contradicted, contradicted', kept.chan, kept.chanSettings, Bool.and_eq_true, decide_eq_true_eq, and_assoc,
        Bool.not_eq_true']
      rfl
    have owed : alarmOwed e.key.cls e.key.group u = owedAlarm := by
      simp [alarmOwed, owedAlarm, Bool.decide_and, Bool.and_assoc]
    rw [acted yes, each]
    cases found : allChannels.find? contradicted' with
    | none => exact contradict_none word u (by rw [isContradicted, found])
    | some c =>
      have raised := contradict_some word u (c := c) (by rw [isContradicted, found])
      rw [kept.clock, kept.chanSettings] at raised
      refine raised.trans ?_
      dsimp only [word]
      rw [owed]
      rfl

end Sys2Proof.Proofs
end


section
/-! ACK, TEST, ABORT and RESTART at the port (R46, R95, R111, R145, R165 to R168). -/

namespace Sys2Proof.Machine

/-! ### Answers (R161, R163) -/

/-- The port once an answer has begun. -/
def answering (lines : List Text) (restart : Bool) (s : State) : Port :=
  { s.port with answer := some ⟨lines, 24 * s.now + 25 * (lines.map fun t => t.length + 2).sum, restart⟩ }

theorem sendAnswer_eq (line : Text) (restart : Bool) (s : State) :
    sendAnswer [line] restart s = { s with port := answering [line] restart s } := by
  simp [sendAnswer, State.setPort, answerEnds, answerLength, answering]

theorem answerOk_eq (s : State) : answerOk [] s = { s with port := answering ["OK".toList] false s } := sendAnswer_eq _ _ s

/-- A command that keeps the port and the time is answered as the state it was given in. -/
theorem answering_kept {s t : State} (kept : Kept s t) (lines : List Text) (restart : Bool) :
    answering lines restart t = answering lines restart s := by
  rw [answering, kept.port, kept.now, answering]

/-! ### ACK (R145) -/

theorem cond_acknowledgeTroubles (s : State) (c : Condition) :
    (acknowledgeTroubles s).cond c =
      if (s.cond c).active then s.cond c else { s.cond c with unacknowledged := false } :=
  Vector.getElem_map _ c.index.isLt

/-! ### TEST (R166) -/

theorem testPresent_iff (s : State) (event : Nat) :
    s.testPresent event = true ↔ ∃ r ∈ s.queue.reports, r.matter.cls = .test ∧ r.matter.event = event := by
  simp [State.testPresent]

/-! ### A line released by the access controller (R62) -/

/-- A taken line that its holder releases plainly is in GUARD, without a holder. -/
theorem line_releaseLine_taken {s : State} {l : LineNo} {b : Holder} (holder : (s.line l).holder = some b)
    (taken : (s.line l).state.taken = true) :
    ((releaseLine b .plain l s).line l).state = .guard ∧ ((releaseLine b .plain l s).line l).holder = none := by
  have states : (s.line l).state = .held ∨ (s.line l).state = .break := by
    simpa [LineState.taken] using taken
  rcases states with held | brk
  · obtain ⟨guard, none, -⟩ := line_releaseLine_held held holder
    exact ⟨guard, none⟩
  · simp [releaseLine, holder, brk]

/-! ### The end of an acquisition (R95) -/

/-- The acquisition ended, its line released. -/
def acquisitionEnded (s : State) : State :=
  (match s.access.state.holds with
    | some (l, _, _) => releaseLine .access .plain l s
    | none => s).setAccess .idle

section
variable (s : State)

theorem calm_acquisitionEnded : Calm s (acquisitionEnded s) := by
  unfold acquisitionEnded
  split
  · exact (calm_releaseLine s _ _ _).trans (calm_setAccess _ _)
  · exact calm_setAccess s _

theorem acquisitionEnded_of_holds {l : LineNo} (holds : s.access.state.holds.map (·.1) = some l) :
    acquisitionEnded s = (releaseLine .access .plain l s).setAccess .idle := by
  obtain ⟨⟨m, st, check⟩, h, rfl⟩ := Option.map_eq_some_iff.1 holds
  simp [acquisitionEnded, h]

/-- With no head, an abort ends the acquisition. -/
theorem abortAcquisition_no_head (head : s.queue.head = none) : abortAcquisition s = acquisitionEnded s := by
  cases access : s.access.state <;>
    simp [abortAcquisition, head, access, acquisitionEnded, AccessState.holds, releaseAndIdle]

/-- With a head, an abort puts it off by 5 s and has the head decided. -/
theorem abortAcquisition_head {q : Nat} (head : s.queue.head = some q) :
    abortAcquisition s = decideHead ((acquisitionEnded s).setReport q fun r => { r with eligibleAt := s.clock + 5 }) := by
  cases access : s.access.state <;>
    simp [abortAcquisition, head, access, acquisitionEnded, AccessState.holds, releaseAndIdle]

/-- A report put off is not the first eligible one. -/
theorem firstEligible_deferred (q : Nat) :
    (s.setReport q fun r => { r with eligibleAt := s.clock + 5 }).firstEligible ≠ some q := by
  intro first
  obtain ⟨r, found, seq⟩ := Option.map_eq_some_iff.1 first
  obtain ⟨x, -, rfl⟩ := List.mem_map.1 (List.mem_of_find?_eq_some found)
  have eligible := List.find?_some found
  by_cases same : x.seq = q
  · simp [State.eligible, same] at eligible
  · rw [if_neg same] at seq
    exact same seq

/-- The head decided names a report of the queue. -/
theorem headReport_headDecided : (headDecided s).headReport.isSome = s.firstEligible.isSome := by
  have head : (headDecided s).headReport = s.firstEligible.bind s.report := rfl
  rw [head]
  cases first : s.firstEligible with
  | none => rfl
  | some q =>
    obtain ⟨r, here⟩ := report_of_firstEligible first
    simp [here]

/-- With no acquisition and no call, a change of head starts an acquisition for the new head with T0 now (R73). -/
theorem decideHead_free (access : s.access.state = .idle) (call : s.call.state = .idle)
    (changes : s.firstEligible ≠ s.queue.head) :
    decideHead s = if s.firstEligible.isSome then chooseLine s.now (headDecided s) else headDecided s := by
  have told : decideHead s = accessHeadChange (headDecided s) := by
    rw [decideHead, if_neg changes]
    exact if_pos call
  rw [told, ← headReport_headDecided]
  cases head : (headDecided s).headReport with
  | none =>
    have idle : (headDecided s).access.state = .idle := access
    simp [accessHeadChange, head, headLost, idle]
  | some r =>
    rw [accessHeadChange_idle head access, if_pos (by exact call)]
    rfl

theorem access_acquisitionEnded : (acquisitionEnded s).access = ⟨.idle, s.access.cursor⟩ := by
  unfold acquisitionEnded
  split
  · simp [State.setAccess, access_releaseLine]
  · rfl

/-- The state in which an abort has put the head off (R95). -/
def abortedHead (q : Nat) : State := (acquisitionEnded s).setReport q fun r => { r with eligibleAt := s.clock + 5 }

/-- With no call, the abort of an acquisition for a head leaves one for the next head, with T0 now. -/
theorem abortAcquisition_free {q : Nat} (head : s.queue.head = some q) (call : s.call.state = .idle) :
    abortAcquisition s =
      if (abortedHead s q).firstEligible.isSome then chooseLine s.now (headDecided (abortedHead s q))
      else headDecided (abortedHead s q) := by
  have ended := calm_acquisitionEnded s
  have now : (abortedHead s q).now = s.now := ended.kept.now
  have idle : (abortedHead s q).access.state = .idle := congrArg Access.state (access_acquisitionEnded s)
  have noCall : (abortedHead s q).call.state = .idle := (congrArg Call.state ended.call).trans call
  have changes : (abortedHead s q).firstEligible ≠ (abortedHead s q).queue.head := by
    have put := firstEligible_deferred (acquisitionEnded s) q
    rw [ended.kept.clock] at put
    have held : (abortedHead s q).queue.head = some q := (congrArg Queue.head ended.queue).trans head
    rw [held]
    exact put
  rw [abortAcquisition_head s head, ← now]
  exact decideHead_free (abortedHead s q) idle noCall changes

section
variable {s} (call : s.call.state = .idle)
include call

/-- Only an acquisition for a head is left by an abort, with T0 now. -/
theorem access_abortAcquisition :
    (abortAcquisition s).access.state = .idle ∨
      ((abortAcquisition s).headReport.isSome ∧ (abortAcquisition s).access.state.t0 = some s.now) := by
  cases head : s.queue.head with
  | none => left; rw [abortAcquisition_no_head s head, access_acquisitionEnded]
  | some q =>
    rw [abortAcquisition_free s head call]
    split
    · rename_i some
      have present : (headDecided (abortedHead s q)).headReport.isSome := by rw [headReport_headDecided]; exact some
      exact .inr ⟨by rw [(calm_chooseLine _ _).headReport]; exact present, t0_chooseLine _ _ present⟩
    · exact .inl (congrArg Access.state (access_acquisitionEnded s))

/-- A line that the end of the acquisition leaves in GUARD stays there. -/
theorem line_abortAcquisition {l : LineNo} (busy : ((acquisitionEnded s).line l).state ≠ .idle) :
    (abortAcquisition s).line l = (acquisitionEnded s).line l := by
  cases head : s.queue.head with
  | none => rw [abortAcquisition_no_head s head]
  | some q =>
    rw [abortAcquisition_free s head call]
    split
    · exact line_chooseLine _ _ busy
    · rfl

theorem trouble_abortAcquisition : (abortAcquisition s).trouble = s.trouble := by
  have ended := (calm_acquisitionEnded s).trouble
  cases head : s.queue.head with
  | none => rw [abortAcquisition_no_head s head, ended]
  | some q =>
    rw [abortAcquisition_free s head call]
    split
    · exact (calm_chooseLine _ _).trouble.trans ended
    · exact ended

end

end

end Sys2Proof.Machine
end


section
/-! The four commands that act, each taken at once and answered (R163, R165 to R168). -/

namespace Sys2Proof.Proofs
open Sys2Proof Sys2Proof.Machine

/-- Settles O52: each command's line fits, so that it acts at once; an abort ends the acquisition or the call. -/
theorem portActs : Obligations.Port_acts := by
  intro s run free sending fits ok
  have okIs : answering ["OK".toList] false s = ok := rfl
  have okOf {t : State} (kept : Kept s t) : answerOk [] t = { t with port := ok } := by
    rw [answerOk_eq, answering_kept kept, okIs]
  refine ⟨fun room => ?_, fun present room => ?_, fun absent room => ?_, fun idle out room => ?_, fun idle inCall room => ?_,
    fun acquiring callIdle room => ?_, fun room => ?_⟩
  · refine ⟨answerOk [] (acknowledgeTroubles s), congrArg _ (giveCommand_of_room s .ack doAck run free room), ?_,
      cond_acknowledgeTroubles s, rfl⟩
    rw [answerOk_eq]
    rfl
  · have isPresent := (testPresent_iff s 321).2 present
    have acts : doTest s = { s with port := sending ["ERR PENDING".toList] false } := by
      rw [doTest, if_pos isPresent]
      exact sendAnswer_eq _ _ s
    exact congrArg _ ((giveCommand_of_room s .test doTest run free room).trans acts)
  · have isAbsent : ¬ s.testPresent 321 = true := fun present => by
      obtain ⟨r, mem, is⟩ := (testPresent_iff s 321).1 present
      exact absent r mem is
    have acts : doTest s = { handReport (testReport 321 s.clock) s with port := ok } := by
      rw [doTest, if_neg isAbsent, okOf (kept_handReport _ _)]
    exact congrArg _ ((giveCommand_of_room s .test doTest run free room).trans acts)
  · have acts : doAbort s = { s with port := sending ["ERR NOCALL".toList] false } := by
      rw [doAbort, if_neg (by simp [idle, out])]
      exact sendAnswer_eq _ _ s
    exact congrArg _ ((giveCommand_of_room s .abort doAbort run free room).trans acts)
  · have acts : doAbort s = { endCall .maintAbort s with port := ok } := by
      simp only [doAbort, idle, inCall, ne_eq, not_true_eq_false, or_true, if_true, if_false]
      exact okOf (kept_endCall s _)
    exact congrArg _ ((giveCommand_of_room s .abort doAbort run free room).trans acts)
  · have out : s.inCall = false := by simp [State.inCall, callIdle]
    have acts : doAbort s = { abortAcquisition s with port := ok } := by
      simp only [doAbort, acquiring, out, ne_eq, not_false_eq_true, true_or, if_true, Bool.false_eq_true, if_false]
      exact okOf (kept_abortAcquisition s)
    refine ⟨{ abortAcquisition s with port := ok },
      congrArg _ ((giveCommand_of_room s .abort doAbort run free room).trans acts), rfl, trouble_abortAcquisition callIdle,
      fun l holds holder taken => ?_, ?_, fun head gone => ?_, fun acquires => ?_⟩
    · obtain ⟨guard, noHolder⟩ := line_releaseLine_taken holder taken
      have ended : (acquisitionEnded s).line l = (releaseLine .access .plain l s).line l := by
        rw [acquisitionEnded_of_holds s holds]; rfl
      have line := line_abortAcquisition (l := l) callIdle (by rw [ended, guard]; decide)
      exact ⟨(congrArg Line.state (line.trans ended)).trans guard, (congrArg Line.holder (line.trans ended)).trans noHolder⟩
    · intro released idle
      have ended : acquisitionEnded s = idle := by
        have access := access_acquisitionEnded s
        simp only [idle, released]
        rw [← access]
        unfold acquisitionEnded
        cases s.access.state.holds <;> rfl
      refine ⟨fun none => ?_, fun q head => ?_⟩
      · rw [abortAcquisition_no_head s none, ended]
        exact ⟨rfl, by rw [← ended]; exact (calm_acquisitionEnded s).queue⟩
      · intro deferred decided
        have isDeferred : abortedHead s q = deferred := by
          simp only [abortedHead, State.setReport, ended, deferred]
          rw [← (calm_acquisitionEnded s).queue, ended]
        have isDecided : headDecided (abortedHead s q) = decided := by
          rw [isDeferred, headDecided, firstEligible_eq_headFirst]
        rw [abortAcquisition_free s head callIdle, isDecided, isDeferred, firstEligible_eq_headFirst]
        refine ⟨?_, rfl⟩
        show State.queue (if _ then _ else _) = _
        split
        · exact (calm_chooseLine _ _).queue
        · rfl
    · rcases access_abortAcquisition callIdle with idle | ⟨present, -⟩
      · exact idle
      · have none : (abortAcquisition s).headReport = none := gone
        simp [none] at present
    · rcases access_abortAcquisition callIdle with idle | ⟨-, now⟩
      · exact absurd idle acquires
      · exact now
  · exact congrArg _ ((giveCommand_of_room s .restart doRestart run free room).trans (sendAnswer_eq _ _ s))

end Sys2Proof.Proofs
end

section
/-! Which block holds which line (R59, R87, R97): the records of the lines, the tone output, the access state and the call agree, and
what changes of a line's record leave of that. -/

namespace Sys2Proof.Machine

/-! ### The record of one line (sections 3.1, 3.4 and 3.5) -/

section
variable {ln : Line}

theorem LineState.taken_iff {st : LineState} : st.taken = true ↔ st = .held ∨ st = .break := by
  cases st <;> decide

theorem LineState.taken_eq_false_iff {st : LineState} : st.taken = false ↔ st ≠ .held ∧ st ≠ .break := by
  cases st <;> decide

/-- A sound line that no block holds is neither HELD nor in BREAK. -/
theorem Line.sound.free (h : ln.sound) (holder : ln.holder = none) : ln.state.taken = false := by
  obtain ⟨-, taken, -⟩ := h
  exact taken.1 holder

/-- A sound line of a state that is not taken has no holder. -/
theorem Line.sound.noHolder (h : ln.sound) (free : ln.state.taken = false) : ln.holder = none := by
  obtain ⟨-, taken, -⟩ := h
  exact taken.2 free

/-- A sound line with a holder is HELD or in BREAK. -/
theorem Line.sound.taken (h : ln.sound) (holder : ln.holder ≠ none) : ln.state.taken = true := by
  by_contra no
  exact holder (h.noHolder (by simpa using no))

/-- The hook relay closes on a line that is neither HELD nor out of service (R52, R59, R63). -/
theorem Line.sound_closeRelay (h : ln.sound) (may : ln.state = .idle ∨ ln.state = .occupied ∨ ln.state = .break) (now : Nat)
    (check : Bool) : (ln.closeRelay now check).sound := by
  obtain ⟨fitted, -, -, -, -, -, -, -, -, fault⟩ := h
  have notUnfitted : ln.fitted ≠ false := fun no => by
    have := fitted.2 no
    rcases may with st | st | st <;> simp [st] at this
  have noFault : ln.faultCause.isSome = false := by
    rw [Bool.eq_false_iff]
    intro some
    have := fault.1 some
    rcases may with st | st | st <;> simp [st] at this
  refine ⟨?_, ?_, ?_, ?_, ?_, ?_, ?_, ?_, ?_, ?_⟩ <;> simp_all [Line.closeRelay, LineState.taken]

/-- The hook relay opens on a HELD line into GUARD (R57, R60, R62). -/
theorem Line.sound_dropped (h : ln.sound) (held : ln.state = .held) (now : Nat) (n : Bool) :
    ({ (ln.openRelay now .guard none).receiverAnew now with noYield := n } : Line).sound := by
  obtain ⟨fitted, -, -, -, -, -, -, occupant, -, fault⟩ := h
  refine ⟨?_, ?_, ?_, ?_, ?_, ?_, ?_, ?_, ?_, ?_⟩ <;> simp_all [Line.openRelay, Line.receiverAnew, LineState.taken]

/-- The hook relay opens on a HELD line into BREAK (R62, R91). -/
theorem Line.sound_broken (h : ln.sound) (held : ln.state = .held) (now : Nat) :
    (ln.openRelay now .break (some .access)).sound := by
  obtain ⟨fitted, -, -, -, -, -, -, occupant, noYield, fault⟩ := h
  refine ⟨?_, ?_, ?_, ?_, ?_, ?_, ?_, ?_, ?_, ?_⟩ <;> simp_all [Line.openRelay, LineState.taken]

/-- The hook relay opens on a HELD line that has shown no loop (R61). -/
theorem Line.sound_noLoop (h : ln.sound) (held : ln.state = .held) (now : Nat) :
    ({ (ln.openRelay now .faulted none).receiverAnew now with faultCause := some .noLoop, noLoop := true } : Line).sound := by
  obtain ⟨fitted, -, -, -, -, -, -, occupant, noYield, fault⟩ := h
  refine ⟨?_, ?_, ?_, ?_, ?_, ?_, ?_, ?_, ?_, ?_⟩ <;> simp_all [Line.openRelay, Line.receiverAnew, LineState.taken]

/-- A line in BREAK is given up (R62). -/
theorem Line.sound_givenUp (h : ln.sound) (brk : ln.state = .break) (now : Nat) (n : Bool) :
    ({ ln.receiverAnew now with
        state := .guard, enteredAt := now, periodOver := false, holder := none, noYield := n } : Line).sound := by
  obtain ⟨fitted, -, -, check, current, sampled, onhook, occupant, -, fault⟩ := h
  refine ⟨?_, ?_, ?_, ?_, ?_, ?_, ?_, ?_, ?_, ?_⟩ <;> simp_all [Line.receiverAnew, LineState.taken]

/-- A line whose relay is open takes the state of its on-hook band (R53 to R57). -/
theorem Line.sound_enterOnhook (h : ln.sound) (free : ln.state.taken = false) (fitted : ln.state ≠ .unfitted) (now : Nat)
    (b : OnhookBand) : (ln.enterOnhook now b).sound := by
  obtain ⟨unfitted, taken, -, check, current, sampled, onhook, -, -, -⟩ := h
  rw [LineState.taken_eq_false_iff] at free
  refine ⟨?_, ?_, ?_, ?_, ?_, ?_, ?_, ?_, ?_, ?_⟩ <;> cases b <;>
    simp_all [Line.enterOnhook, OnhookBand.lineState, LineState.taken]

/-- A SUSPECT line enters FAULTED (R55). -/
theorem Line.sound_faulted (h : ln.sound) (suspect : ln.state = .suspect) (now : Nat) :
    ({ ln with state := .faulted, enteredAt := now, periodOver := false, faultCause := some .dead } : Line).sound := by
  obtain ⟨unfitted, taken, -, check, current, sampled, onhook, occupant, noYield, fault⟩ := h
  refine ⟨?_, ?_, ?_, ?_, ?_, ?_, ?_, ?_, ?_, ?_⟩ <;> simp_all [LineState.taken]

theorem sound_freshLine (fitted : Bool) : (freshLine fitted).sound := by
  cases fitted <;> simp [Line.sound, freshLine, LineState.taken]

end

/-! ### The lines and the one that is held -/

/-- Every line is sound, a block `b` holds the line `l` and nothing else is held, tones sound and wait on a HELD line only, and a
call is paused from no state but one it can be paused from (R59, R68, R112). -/
structure LinesHeld (l : Option LineNo) (b : Holder) (s : State) : Prop where
  sound : ∀ m, (s.line m).sound
  holder : ∀ m, (s.line m).holder = if l = some m then some b else none
  sounding : ∀ p, s.tone.sounding = some p → (s.line p.1.line).state = .held
  waiting : ∀ r ∈ s.tone.waiting, (s.line r.line).state = .held
  pause : ∀ p, s.call.pause = some p → p.from_.pausable = true

section
variable {l l' : Option LineNo} {b b' : Holder} {s t : State}

/-- What `LinesHeld` says is about the lines, the tone output and the pause. -/
theorem LinesHeld.congr (h : LinesHeld l b s) (lines : t.lines = s.lines) (tone : t.tone = s.tone)
    (pause : ∀ p, t.call.pause = some p → p.from_.pausable = true) : LinesHeld l b t := by
  have line (m : LineNo) : t.line m = s.line m := by simp [State.line, lines]
  refine ⟨fun m => ?_, fun m => ?_, fun p => ?_, fun r => ?_, pause⟩
  · rw [line]; exact h.sound m
  · rw [line]; exact h.holder m
  · rw [line, tone]; exact h.sounding p
  · rw [line, tone]; exact h.waiting r

/-- A line that is not the one held is neither HELD nor in BREAK. -/
theorem LinesHeld.free (h : LinesHeld l b s) {m : LineNo} (other : l ≠ some m) : (s.line m).state.taken = false :=
  (h.sound m).free (by rw [h.holder, if_neg other])

/-- The one line that is taken is the one held. -/
theorem LinesHeld.eq_of_taken (h : LinesHeld l b s) {m : LineNo} (taken : (s.line m).state.taken = true) : l = some m := by
  by_contra other
  simp [h.free other] at taken

/-- With no line held it does not matter by whom. -/
theorem LinesHeld.of_none (h : LinesHeld none b s) : LinesHeld none b' s :=
  ⟨h.sound, fun m => by rw [h.holder]; simp, h.sounding, h.waiting, h.pause⟩

/-- A line's record changes, its tones going on or not needed: who holds the lines after it. -/
theorem LinesHeld.setLine (h : LinesHeld l b s) (m : LineNo) (f : Line → Line) (sound : (f (s.line m)).sound)
    (held : (s.line m).state = .held → (f (s.line m)).state = .held)
    (mine : (f (s.line m)).holder = if l' = some m then some b' else none)
    (others : ∀ n, n ≠ m → (if l = some n then some b else none) = if l' = some n then some b' else none) :
    LinesHeld l' b' (s.setLine m f) := by
  have keeps (n : LineNo) (st : (s.line n).state = .held) : ((s.setLine m f).line n).state = .held := by
    by_cases eq : n = m
    · subst eq; rw [State.line_setLine]; exact held st
    · rw [State.line_setLine_ne _ _ _ _ eq]; exact st
  refine ⟨fun n => ?_, fun n => ?_, fun p eq => keeps _ (h.sounding p eq), fun r mem => keeps _ (h.waiting r mem), h.pause⟩
  · by_cases eq : n = m
    · subst eq; rw [State.line_setLine]; exact sound
    · rw [State.line_setLine_ne _ _ _ _ eq]; exact h.sound n
  · by_cases eq : n = m
    · subst eq; rw [State.line_setLine]; exact mine
    · rw [State.line_setLine_ne _ _ _ _ eq, h.holder, others n eq]

/-- A line's record changes and its holder stays. -/
theorem LinesHeld.setLine_same (h : LinesHeld l b s) (m : LineNo) (f : Line → Line) (sound : (f (s.line m)).sound)
    (held : (s.line m).state = .held → (f (s.line m)).state = .held) (holder : (f (s.line m)).holder = (s.line m).holder) :
    LinesHeld l b (s.setLine m f) :=
  h.setLine m f sound held (by rw [holder, h.holder]) fun _ _ => rfl

theorem line_silenceLine (m : LineNo) (s : State) :
    (silenceLine m s).line m = (if toneSounds m s then Line.resumeReceiver s.now else id) (s.line m) :=
  State.line_setLine _ m _

theorem line_silenceLine_ne {m n : LineNo} (other : n ≠ m) (s : State) : (silenceLine m s).line n = s.line n :=
  State.line_setLine_ne _ m n _ other

/-- A line's record changes and its tones are silenced (R68). -/
theorem LinesHeld.silenced (h : LinesHeld l b s) (m : LineNo) (f : Line → Line) (sound : (f (s.line m)).sound)
    (mine : (f (s.line m)).holder = if l' = some m then some b' else none)
    (others : ∀ n, n ≠ m → (if l = some n then some b else none) = if l' = some n then some b' else none) :
    LinesHeld l' b' (silenceLine m (s.setLine m f)) := by
  have keeps (n : LineNo) (other : n ≠ m) : (silenceLine m (s.setLine m f)).line n = s.line n := by
    rw [line_silenceLine_ne other, State.line_setLine_ne _ _ _ _ other]
  have mineIs : (silenceLine m (s.setLine m f)).line m = (if toneSounds m (s.setLine m f) then Line.resumeReceiver s.now else id)
      (f (s.line m)) := by
    rw [line_silenceLine, State.line_setLine]; rfl
  refine ⟨fun n => ?_, fun n => ?_, fun p eq => ?_, fun r mem => ?_, h.pause⟩
  · by_cases eq : n = m
    · subst eq; rw [mineIs]; split <;> exact sound
    · rw [keeps n eq]; exact h.sound n
  · by_cases eq : n = m
    · subst eq; rw [mineIs, ← mine]; split <;> rfl
    · rw [keeps n eq, h.holder, others n eq]
  · simp only [silenceLine, State.setLine_tone] at eq
    split at eq
    · rename_i r e sounding
      split at eq
      · cases eq
      · rename_i other
        cases eq
        rw [keeps _ other]
        exact h.sounding _ sounding
    · cases eq
  · simp only [silenceLine, State.setLine_tone, List.mem_filter, decide_eq_true_eq] at mem
    rw [keeps _ mem.2]
    exact h.waiting r mem.1

end

/-! ### Lines seized and released (R59, R62) -/

section
variable {l : Option LineNo} {b : Holder} {s : State}

/-- A tone request needs a HELD line, and changes no line's state or holder (R68). -/
theorem LinesHeld.requestTone (h : LinesHeld l b s) (m : LineNo) (y : Sym) (d : Nat) : LinesHeld l b (requestTone m y d s) := by
  obtain ⟨_, e⟩ | ⟨held, _, e⟩ | ⟨held, _, e⟩ := requestTone_cases s m y d <;> rw [e]
  · exact h
  · have started := h.setLine_same m (fun ln => { ln with handshakeHeard := false, ackHeard := false }) (h.sound m) id rfl
    refine ⟨started.sound, started.holder, fun p eq => ?_, started.waiting, h.pause⟩
    cases eq
    exact (congrArg Line.state (State.line_setLine s m fun ln => { ln with handshakeHeard := false, ackHeard := false })).trans held
  · refine ⟨h.sound, h.holder, h.sounding, fun r mem => ?_, h.pause⟩
    rcases List.mem_append.1 mem with old | new
    · exact h.waiting r old
    · cases List.mem_singleton.1 new
      exact held

/-- What a stream discarded on a line leaves of it: all but the garbled count (R125). -/
theorem line_discardStream (l : LineNo) (s : State) : ∃ n, (discardStream l s).line l = { s.line l with garbled := n } := by
  unfold discardStream raiseGarbled
  split
  · exact ⟨_, rfl⟩
  · split
    · exact ⟨_, rfl⟩
    · exact ⟨_, State.line_setLine _ l _⟩

theorem tone_discardStream (l : LineNo) (s : State) : (discardStream l s).tone = s.tone := by
  unfold discardStream raiseGarbled
  split
  · rfl
  · split <;> rfl

theorem LinesHeld.discardStream (h : LinesHeld l b s) (m : LineNo) : LinesHeld l b (discardStream m s) := by
  obtain ⟨n, mine⟩ := line_discardStream m s
  have line (k : LineNo) : (Machine.discardStream m s).line k = if k = m then { s.line m with garbled := n } else s.line k := by
    split
    · rename_i eq; subst eq; exact mine
    · rename_i other; exact line_discardStream_ne s other
  have state (k : LineNo) : ((Machine.discardStream m s).line k).state = (s.line k).state := by
    rw [line]; split
    · rename_i eq; rw [eq]
    · rfl
  refine ⟨fun k => ?_, fun k => ?_, fun p eq => ?_, fun r mem => ?_, ?_⟩
  · rw [line]; split
    · exact h.sound m
    · exact h.sound k
  · rw [← h.holder k, line]; split
    · rename_i eq; rw [eq]
    · rfl
  · rw [tone_discardStream] at eq; rw [state]; exact h.sounding p eq
  · rw [tone_discardStream] at mem; rw [state]; exact h.waiting r mem
  · rw [(calm_discardStream s m).call]; exact h.pause

/-- The record of a line just seized (R59). -/
theorem line_seizeLine (check : Bool) (l : LineNo) (s : State) :
    ∃ n, (seizeLine check l s).line l = ({ s.line l with garbled := n }.closeRelay s.now check).receiverAnew s.now := by
  obtain ⟨n, mine⟩ := line_discardStream l s
  refine ⟨n, ?_⟩
  rw [← mine]
  exact State.line_setLine _ l _

/-- A release of a HELD line by its holder into GUARD (R62). -/
theorem releaseLine_held {b : Holder} {k : ReleaseKind} {l : LineNo} {s : State} (holder : (s.line l).holder = some b)
    (held : (s.line l).state = .held) (kind : k ≠ .brk) : releaseLine b k l s = dropToGuard (k = .noYield) l s := by
  cases k
  · simp [releaseLine, holder, held]
  · simp [releaseLine, holder, held]
  · exact absurd rfl kind

/-- A release of a line in BREAK by its holder into GUARD (R62). -/
theorem releaseLine_break {b : Holder} {k : ReleaseKind} {l : LineNo} {s : State} (holder : (s.line l).holder = some b)
    (brk : (s.line l).state = .break) (kind : k ≠ .brk) :
    releaseLine b k l s = s.setLine l fun ln =>
      { ln.receiverAnew s.now with
        state := .guard, enteredAt := s.now, periodOver := false, holder := none, noYield := k = .noYield } := by
  cases k
  · simp [releaseLine, holder, brk]
  · simp [releaseLine, holder, brk]
  · exact absurd rfl kind

/-- With no line held, an IDLE or OCCUPIED one is seized (R59). -/
theorem LinesHeld.seizeLine (h : LinesHeld none b s) (check : Bool) {m : LineNo}
    (may : (s.line m).state = .idle ∨ (s.line m).state = .occupied) : LinesHeld (some m) .access (seizeLine check m s) := by
  obtain ⟨n, mine⟩ := line_discardStream m s
  have state : ((Machine.discardStream m s).line m).state = (s.line m).state := by rw [mine]
  have sound : ((Machine.discardStream m s).line m).sound := (h.discardStream m).sound m
  refine (h.discardStream m).setLine m _ ?_ (fun _ => rfl) (if_pos rfl).symm fun k other => ?_
  · exact Line.sound_closeRelay sound (by rw [state]; exact may.imp_right .inl) _ _
  · have ne : some m ≠ some k := fun eq => other (Option.some.inj eq).symm
    rw [if_neg ne]; rfl

/-- The line held is given up by a release into GUARD (R62). -/
theorem LinesHeld.releaseLine {m : LineNo} (h : LinesHeld (some m) b s) {k : ReleaseKind} (kind : k ≠ .brk) :
    LinesHeld none b (releaseLine b k m s) := by
  have others (n : LineNo) (other : n ≠ m) :
      (if some m = some n then some b else none) = if none = some n then some b else none := by
    have ne : some m ≠ some n := fun eq => other (Option.some.inj eq).symm
    rw [if_neg ne]; rfl
  have holder : (s.line m).holder = some b := by rw [h.holder, if_pos rfl]
  rcases LineState.taken_iff.1 ((h.sound m).taken (by rw [holder]; simp)) with held | brk
  · rw [releaseLine_held holder held kind]
    exact h.silenced m _ (Line.sound_dropped (h.sound m) held _ _) rfl others
  · rw [releaseLine_break holder brk kind]
    exact h.setLine m _ (Line.sound_givenUp (h.sound m) brk _ _) (fun held => by simp [brk] at held) rfl others

/-- A block that holds no line has nothing to release (R62). -/
theorem releaseLine_of_not_holder {b : Holder} {k : ReleaseKind} {m : LineNo} {s : State} (not : (s.line m).holder ≠ some b) :
    releaseLine b k m s = s := if_neg not

end

end Sys2Proof.Machine
end

section
/-! The acts of the access controller and the call engine on the lines. Everything that the report queue, the trouble unit, the channels
and the port set off is a chain of them, and what each act keeps, they keep. -/

namespace Sys2Proof.Machine

/-! ### The agreement of the lines with the blocks that hold them (R59, R87, R97, R108) -/

/-- The line an access state holds for the acquisition. -/
def AccessState.heldLine (a : AccessState) : Option LineNo := a.holds.map (·.1)

theorem AccessState.heldLine_of_holds {a : AccessState} {l : LineNo} {st : LineState} {w : Bool} (h : a.holds = some (l, st, w)) :
    a.heldLine = some l := by simp [AccessState.heldLine, h]

theorem AccessState.heldLine_eq_none {a : AccessState} : a.heldLine = none ↔ a.holds = none := by
  simp [AccessState.heldLine]

/-- Without a call the access controller holds the line that its state names, and with one the call engine the line of the call, HELD
and past its check window. -/
inductive HeldSound (s : State) : Prop
  | acquiring (idle : s.call.state = .idle) (held : LinesHeld s.access.state.heldLine .access s)
      (line : ∀ l st w, s.access.state.holds = some (l, st, w) →
        (s.line l).state = st ∧ (s.line l).checkStart.isSome = w)
  | calling (engaged : s.call.state ≠ .idle) (goesOn : s.call.state ≠ .closing) (access : s.access.state = .idle)
      (held : LinesHeld s.call.line .call s)
      (line : ∀ l, s.call.line = some l → (s.line l).state = .held ∧ (s.line l).checkStart = none)

section
variable {s t : State}

theorem HeldSound.pause (h : HeldSound s) : ∀ p, s.call.pause = some p → p.from_.pausable = true := by
  obtain ⟨_, held, _⟩ | ⟨_, _, _, held, _⟩ := h <;> exact held.pause

theorem HeldSound.sound (h : HeldSound s) (l : LineNo) : (s.line l).sound := by
  obtain ⟨_, held, _⟩ | ⟨_, _, _, held, _⟩ := h <;> exact held.sound l

/-- An access controller that has left AC_IDLE has no call beside it. -/
theorem HeldSound.idle_of_mayAcquire (h : HeldSound s) (may : MayAcquire s) : s.call.state = .idle := by
  obtain ⟨idle, _, _⟩ | ⟨_, _, access, _, _⟩ := h
  · exact idle
  · exact may.resolve_left fun busy => busy access

/-- Without a call the lines are as the access state says. -/
theorem HeldSound.ofIdle (h : HeldSound s) (idle : s.call.state = .idle) :
    LinesHeld s.access.state.heldLine .access s ∧ ∀ l st w, s.access.state.holds = some (l, st, w) →
      (s.line l).state = st ∧ (s.line l).checkStart.isSome = w := by
  obtain ⟨_, held, line⟩ | ⟨engaged, _, _, _, _⟩ := h
  · exact ⟨held, line⟩
  · exact absurd idle engaged

/-- What `HeldSound` says is about the lines, the tone output, the access state and the call. -/
theorem HeldSound.congr (h : HeldSound s) (lines : t.lines = s.lines) (tone : t.tone = s.tone)
    (access : t.access.state = s.access.state) (call : t.call = s.call) : HeldSound t := by
  have line (m : LineNo) : t.line m = s.line m := by simp [State.line, lines]
  have pause : ∀ p, t.call.pause = some p → p.from_.pausable = true := by rw [call]; exact h.pause
  obtain ⟨idle, held, own⟩ | ⟨engaged, goesOn, free, held, own⟩ := h
  · refine .acquiring (by rw [call]; exact idle) (by rw [access]; exact held.congr lines tone pause) fun l st w eq => ?_
    rw [line]; exact own l st w (access ▸ eq)
  · refine .calling (by rw [call]; exact engaged) (by rw [call]; exact goesOn) (by rw [access]; exact free)
      (by rw [call]; exact held.congr lines tone pause) fun l eq => ?_
    rw [line]; exact own l (call ▸ eq)

/-- Lines that nobody holds, with no call and no line of the access controller's. -/
theorem HeldSound.of_free {b : Holder} (h : LinesHeld none b s) (idle : s.call.state = .idle)
    (nothing : s.access.state.holds = none) : HeldSound s :=
  .acquiring idle (by rw [AccessState.heldLine_eq_none.2 nothing]; exact h.of_none) fun l st w eq => by simp [nothing] at eq

/-- Without a call and a line of the access controller's, nobody holds a line. -/
theorem HeldSound.free (h : HeldSound s) (idle : s.call.state = .idle) (nothing : s.access.state.holds = none) :
    LinesHeld none .access s := by
  have held := (h.ofIdle idle).1
  rwa [AccessState.heldLine_eq_none.2 nothing] at held

/-- The record of a line changes, and what the blocks know of it does not. -/
theorem HeldSound.setLine (h : HeldSound s) (m : LineNo) (f : Line → Line) (sound : (f (s.line m)).sound)
    (holder : (f (s.line m)).holder = (s.line m).holder)
    (taken : (s.line m).state.taken = true → (f (s.line m)).state = (s.line m).state ∧
      (f (s.line m)).checkStart = (s.line m).checkStart) : HeldSound (s.setLine m f) := by
  have held (st : (s.line m).state = .held) : (f (s.line m)).state = .held := by
    rw [(taken (by rw [st]; rfl)).1, st]
  have same (l : LineNo) (is : (s.line l).state.taken = true) : ((s.setLine m f).line l).state = (s.line l).state ∧
      ((s.setLine m f).line l).checkStart = (s.line l).checkStart := by
    by_cases eq : l = m
    · subst eq; rw [State.line_setLine]; exact taken is
    · rw [State.line_setLine_ne _ _ _ _ eq]; exact ⟨rfl, rfl⟩
  have holds (b : Holder) (o : Option LineNo) (inUse : LinesHeld o b s) (l : LineNo) (eq : o = some l) :
      (s.line l).state.taken = true := (inUse.sound l).taken (by rw [inUse.holder, if_pos eq]; simp)
  obtain ⟨idle, inUse, own⟩ | ⟨engaged, goesOn, free, inUse, own⟩ := h
  · refine .acquiring idle (inUse.setLine_same m f sound held holder) fun l st w eq => ?_
    obtain ⟨state, check⟩ := same l (holds _ _ inUse l (AccessState.heldLine_of_holds eq))
    rw [state, check]
    exact own l st w eq
  · refine .calling engaged goesOn free (inUse.setLine_same m f sound held holder) fun l eq => ?_
    obtain ⟨state, check⟩ := same l (holds _ _ inUse l eq)
    rw [state, check]
    exact own l eq

/-- A line's timing or receiver changes, and nothing that the blocks know of it. -/
theorem HeldSound.setLine_aside (h : HeldSound s) (m : LineNo) (f : Line → Line) (sound : (f (s.line m)).sound)
    (holder : (f (s.line m)).holder = (s.line m).holder) (state : (f (s.line m)).state = (s.line m).state)
    (check : (f (s.line m)).checkStart = (s.line m).checkStart) : HeldSound (s.setLine m f) :=
  h.setLine m f sound holder fun _ => ⟨state, check⟩

/-- The line of the acquisition is given up (R62). -/
theorem HeldSound.givenUp (h : HeldSound s) {l : LineNo} (holds : s.access.state.heldLine = some l) {k : ReleaseKind}
    (kind : k ≠ .brk) : s.call.state = .idle ∧ LinesHeld none .access (releaseLine .access k l s) := by
  have may : MayAcquire s := .inl fun idle => by simp [idle, AccessState.heldLine, AccessState.holds] at holds
  have idle := h.idle_of_mayAcquire may
  have held := (h.ofIdle idle).1
  rw [holds] at held
  exact ⟨idle, held.releaseLine kind⟩

end

/-! ### The acts -/

/-- A call that goes on with its line; it is paused from no other state than before unless from one it can be paused from. -/
structure CallStays (c d : Call) : Prop where
  engaged : c.state ≠ .idle
  stays : d.state ≠ .idle
  goesOn : d.state = .closing → c.state = .closing
  line : d.line = c.line
  pause : ∀ p, d.pause = some p → p.from_.pausable = true ∨ ∃ q, c.pause = some q ∧ p.from_ = q.from_

/-- One act of the access controller or the call engine, with what the model has made sure of before it. -/
inductive Act (s : State) : State → Prop
  /-- Nothing of the lines, the tone output, the decoders, the access state or the call changes. -/
  | aside {t : State} (lines : t.lines = s.lines) (tone : t.tone = s.tone) (decoders : t.listener.decoders = s.listener.decoders)
      (access : t.access.state = s.access.state) (call : t.call = s.call) : Act s t
  /-- The access controller goes on with the line it holds or with none; it leaves AC_IDLE only while the call engine is in CE_IDLE. -/
  | access (a : AccessState) (free : MayAcquire s ∨ a = .idle) (holds : a.holds = s.access.state.holds) : Act s (s.setAccess a)
  /-- A line is seized for an access controller that holds none (R59). -/
  | seized (check : Bool) (l : LineNo) (a : AccessState) (may : MayAcquire s) (none : s.access.state.holds = none)
      (free : (s.line l).state = .idle ∨ (s.line l).state = .occupied) (holds : a.holds = some (l, .held, check)) :
      Act s ((seizeLine check l s).setAccess a)
  /-- The access controller gives up the line it holds (R62). -/
  | givenUp (k : ReleaseKind) (l : LineNo) (a : AccessState) (kind : k ≠ .brk) (holds : s.access.state.heldLine = some l)
      (none : a.holds = none) : Act s ((releaseLine .access k l s).setAccess a)
  /-- A tone is asked for (R68). -/
  | toned (l : LineNo) (y : Sym) (d : Nat) : Act s (requestTone l y d s)
  /-- The call goes on. -/
  | call (f : Call → Call) (on : CallStays s.call (f s.call)) : Act s (s.setCall f)
  /-- A call leaves its pause for the state the pause left (R117). -/
  | resumed (p : PauseRecord) (engaged : s.call.state ≠ .idle) (pause : s.call.pause = some p) :
      Act s (s.setCall fun c => { c with state := p.from_, pause := none })
  /-- The call engine releases its line and clears its context (R108). -/
  | hungUp : Act s ((beginClosing s).setCall fun _ => freshCall)

/-- A chain of acts. -/
abbrev Acts : State → State → Prop := Relation.ReflTransGen Act

theorem Act.one {s t : State} (h : Act s t) : Acts s t := .single h

/-- What every act keeps, a chain of acts keeps. -/
theorem Acts.keeps {P : State → Prop} (one : ∀ s t, Act s t → P s → P t) {s t : State} (h : Acts s t) (hs : P s) : P t := by
  induction h with
  | refl => exact hs
  | tail _ last ih => exact one _ _ last ih

/-! ### The agreement is kept -/

section
variable {s t : State}

theorem tone_seizeLine (check : Bool) (l : LineNo) (s : State) : (seizeLine check l s).tone = s.tone := tone_discardStream l s

/-- A call in progress closes: its line is released and nobody holds a line (R108). -/
theorem LinesHeld.closed {b : Holder} (h : LinesHeld s.call.line .call s) : LinesHeld none b ((beginClosing s).setCall fun _ => freshCall) := by
  have closing : LinesHeld s.call.line .call (s.setCall fun c => { c with state := .closing }) := h.congr rfl rfl h.pause
  have released : LinesHeld none .call (beginClosing s) := by
    unfold beginClosing
    cases line : s.call.line with
    | none => rw [line] at closing; exact closing
    | some l => rw [line] at closing; exact closing.releaseLine (by simp)
  exact released.of_none.congr rfl rfl fun p eq => nomatch eq

/-- Hanging up without a call leaves the lines as they are. -/
theorem lines_hungUp (h : HeldSound s) (idle : s.call.state = .idle) :
    beginClosing s = s.setCall fun c => { c with state := .closing } := by
  have notCall (l : LineNo) : (s.line l).holder ≠ some .call := by
    rw [(h.ofIdle idle).1.holder]; split <;> simp
  unfold beginClosing
  split
  · rename_i l _
    exact releaseLine_of_not_holder (s := s.setCall fun c => { c with state := .closing }) (notCall l)
  · rfl

theorem Act.heldSound (act : Act s t) (h : HeldSound s) : HeldSound t := by
  cases act with
  | aside lines tone decoders access call => exact h.congr lines tone access call
  | access a free holds =>
    obtain ⟨idle, held, own⟩ | ⟨engaged, goesOn, access, held, own⟩ := h
    · refine .acquiring idle ?_ fun l st w eq => own l st w (holds ▸ eq)
      have line : a.heldLine = s.access.state.heldLine := by simp [AccessState.heldLine, holds]
      exact line ▸ held.congr rfl rfl held.pause
    · have idle : a = .idle := free.resolve_left fun may => may.elim (fun busy => busy access) engaged
      exact .calling engaged goesOn idle (held.congr rfl rfl held.pause) own
  | seized check l a may none free holds =>
    have idle := h.idle_of_mayAcquire may
    have seized := (h.free idle none).seizeLine check free
    have calm := calm_seizeLine s check l
    refine .acquiring (by rw [State.setAccess_call, calm.call]; exact idle) ?_ fun m st w eq => ?_
    · exact (AccessState.heldLine_of_holds holds : a.heldLine = some l) ▸ seized.congr rfl rfl seized.pause
    · have same : some (m, st, w) = some (l, LineState.held, check) := eq.symm.trans holds
      cases same
      obtain ⟨n, line⟩ := line_seizeLine check l s
      rw [State.line_setAccess, line]
      cases check <;> exact ⟨rfl, rfl⟩
  | givenUp k l a kind holds none =>
    obtain ⟨idle, released⟩ := h.givenUp holds kind
    have calm := calm_releaseLine s .access k l
    exact .of_free (released.congr rfl rfl released.pause) (by rw [State.setAccess_call, calm.call]; exact idle) none
  | toned l y d =>
    have calm := calm_requestTone s l y d
    have line (m : LineNo) : ((requestTone l y d s).line m).state = (s.line m).state ∧
        ((requestTone l y d s).line m).checkStart = (s.line m).checkStart := by
      obtain ⟨_, e⟩ | ⟨_, _, e⟩ | ⟨_, _, e⟩ := requestTone_cases s l y d <;> rw [e]
      · exact ⟨rfl, rfl⟩
      · have started : (startTone ⟨l, y, d⟩ s).line m =
            (s.setLine l fun ln => { ln with handshakeHeard := false, ackHeard := false }).line m := rfl
        rw [started]
        by_cases eq : m = l
        · subst eq; rw [State.line_setLine]; exact ⟨rfl, rfl⟩
        · rw [State.line_setLine_ne _ _ _ _ eq]; exact ⟨rfl, rfl⟩
      · exact ⟨rfl, rfl⟩
    obtain ⟨idle, held, own⟩ | ⟨engaged, goesOn, access, held, own⟩ := h
    · refine .acquiring (by rw [calm.call]; exact idle) ?_ fun m st w eq => ?_
      · rw [access_requestTone]; exact held.requestTone l y d
      · rw [access_requestTone] at eq; rw [(line m).1, (line m).2]; exact own m st w eq
    · refine .calling (by rw [calm.call]; exact engaged) (by rw [calm.call]; exact goesOn)
        (by rw [access_requestTone]; exact access) (by rw [calm.call]; exact held.requestTone l y d) fun m eq => ?_
      rw [calm.call] at eq; rw [(line m).1, (line m).2]; exact own m eq
  | call f on =>
    obtain ⟨idle, _, _⟩ | ⟨engaged, goesOn, access, held, own⟩ := h
    · exact absurd idle on.engaged
    · refine .calling on.stays (fun closing => goesOn (on.goesOn closing)) access ?_ fun m eq => own m (on.line ▸ eq)
      have same : (s.setCall f).call.line = s.call.line := on.line
      rw [same]
      refine held.congr rfl rfl fun p eq => ?_
      rcases on.pause p eq with ok | ⟨q, before, from_⟩
      · exact ok
      · exact from_ ▸ held.pause q before
  | resumed p engaged pause =>
    obtain ⟨idle, _, _⟩ | ⟨_, goesOn, access, held, own⟩ := h
    · exact absurd idle engaged
    · have pausable := held.pause p pause
      have state (st : CallState) (no : st.pausable = false) : p.from_ ≠ st := fun eq => by simp [eq, no] at pausable
      exact .calling (state .idle rfl) (state .closing rfl) access (held.congr rfl rfl fun q eq => nomatch eq) own
  | hungUp =>
    obtain ⟨idle, held, own⟩ | ⟨engaged, goesOn, access, held, own⟩ := id h
    · rw [lines_hungUp h idle]
      exact .acquiring rfl (held.congr rfl rfl fun p eq => nomatch eq) own
    · refine .of_free (b := .call) held.closed rfl ?_
      rw [State.setCall_access, access_beginClosing, access]
      rfl

/-- What a chain of acts makes of states that agree agrees. -/
theorem Acts.heldSound (acts : Acts s t) (h : HeldSound s) : HeldSound t := acts.keeps (fun _ _ act => act.heldSound) h

end

/-! ### A line that is out of use, and awaited acknowledgements -/

/-- A line that can be neither seized nor released: it is UNFITTED, SETTLING, SUSPECT, FAULTED or in GUARD. -/
def LineState.outOfUse : LineState → Bool
  | .unfitted | .settling | .suspect | .faulted | .guard => true
  | .idle | .occupied | .held | .break => false

section
variable {s t : State}

theorem line_startTone_ne {r : ToneRequest} {m : LineNo} (other : m ≠ r.line) (s : State) : (startTone r s).line m = s.line m :=
  State.line_setLine_ne s r.line m (fun ln => { ln with handshakeHeard := false, ackHeard := false }) other

theorem line_releaseLine_ne {b : Holder} {k : ReleaseKind} {l m : LineNo} (other : m ≠ l) : (releaseLine b k l s).line m = s.line m := by
  obtain e | ⟨_, _, _, e⟩ | ⟨_, _, _, e⟩ | ⟨_, _, _, e⟩ := releaseLine_cases s b k l <;> rw [e]
  · exact (line_silenceLine_ne other _).trans (State.line_setLine_ne _ _ _ _ other)
  · exact (line_silenceLine_ne other _).trans (State.line_setLine_ne _ _ _ _ other)
  · exact State.line_setLine_ne _ _ _ _ other

/-- A line that is not taken has nothing to be released (R62). -/
theorem releaseLine_not_taken {b : Holder} {k : ReleaseKind} {l : LineNo} (free : (s.line l).state.taken = false) :
    releaseLine b k l s = s := by
  rw [LineState.taken_eq_false_iff] at free
  obtain e | ⟨_, held, _, _⟩ | ⟨_, held, _, _⟩ | ⟨_, brk, _, _⟩ := releaseLine_cases s b k l
  · exact e
  · exact absurd held free.1
  · exact absurd held free.1
  · exact absurd brk free.2

theorem LineState.outOfUse_taken {st : LineState} (out : st.outOfUse = true) : st.taken = false := by
  cases st <;> simp_all [LineState.outOfUse, LineState.taken]

theorem line_releaseLine_outOfUse {b : Holder} {k : ReleaseKind} {l m : LineNo} (out : (s.line m).state.outOfUse = true) :
    (releaseLine b k l s).line m = s.line m := by
  by_cases eq : m = l
  · subst eq; rw [releaseLine_not_taken (LineState.outOfUse_taken out)]
  · exact line_releaseLine_ne eq

theorem line_beginClosing_outOfUse {m : LineNo} (out : (s.line m).state.outOfUse = true) : (beginClosing s).line m = s.line m := by
  unfold beginClosing; dsimp only; split
  · exact line_releaseLine_outOfUse (s := s.setCall fun c => { c with state := .closing }) out
  · rfl

/-- No act touches a line that is out of use. -/
theorem Act.line {m : LineNo} (act : Act s t) (out : (s.line m).state.outOfUse = true) : t.line m = s.line m := by
  cases act with
  | aside lines => simp [State.line, lines]
  | access | call | resumed => rfl
  | seized check l a _ _ free =>
    have other : m ≠ l := fun eq => by subst eq; rcases free with st | st <;> simp [st, LineState.outOfUse] at out
    exact line_seizeLine_ne s check other
  | givenUp => exact line_releaseLine_outOfUse out
  | toned l y d =>
    obtain ⟨_, e⟩ | ⟨held, _, e⟩ | ⟨_, _, e⟩ := requestTone_cases s l y d <;> rw [e]
    · have other : m ≠ l := fun eq => by subst eq; simp [held, LineState.outOfUse] at out
      exact line_startTone_ne other s
    · rfl
  | hungUp => exact line_beginClosing_outOfUse out

/-- Acts leave a line that is out of use as it is. -/
theorem Acts.line {m : LineNo} (acts : Acts s t) (out : (s.line m).state.outOfUse = true) : t.line m = s.line m :=
  acts.keeps (P := fun u => u.line m = s.line m) (fun _ _ act same => (act.line (same ▸ out)).trans same) rfl

theorem decoder_of_listener {m : LineNo} (same : t.listener = s.listener) : t.decoder m = s.decoder m := by
  simp [State.decoder, same]

theorem listener_releaseLine (b : Holder) (k : ReleaseKind) (l : LineNo) (s : State) : (releaseLine b k l s).listener = s.listener := by
  obtain e | ⟨_, _, _, e⟩ | ⟨_, _, _, e⟩ | ⟨_, _, _, e⟩ := releaseLine_cases s b k l <;> exact (congrArg State.listener e).trans rfl

theorem listener_requestTone (l : LineNo) (y : Sym) (d : Nat) (s : State) : (requestTone l y d s).listener = s.listener := by
  obtain ⟨_, e⟩ | ⟨_, _, e⟩ | ⟨_, _, e⟩ := requestTone_cases s l y d <;> exact (congrArg State.listener e).trans rfl

theorem listener_beginClosing (s : State) : (beginClosing s).listener = s.listener := by
  unfold beginClosing; dsimp only; split
  · exact listener_releaseLine _ _ _ _
  · rfl

/-- A stream discarded on a line: the other lines' decoders stay, and of its own only the stream is gone (R125). -/
theorem decoder_discardStream (l m : LineNo) (s : State) :
    (discardStream l s).decoder m = if m = l then { s.decoder l with stream := none } else s.decoder m := by
  have raised (u : State) : (raiseGarbled l u).decoder m = u.decoder m := by unfold raiseGarbled; split <;> rfl
  unfold discardStream
  split
  · rename_i none
    split
    · rename_i eq; subst eq; cases d : s.decoder m; simp_all
    · rfl
  · rw [raised]
    split
    · rename_i eq; subst eq; rw [State.decoder_setDecoder]
    · rename_i other; rw [State.decoder_setDecoder_ne _ _ _ _ other]

theorem decoder_seizeLine (check : Bool) (l m : LineNo) (s : State) :
    (seizeLine check l s).decoder m = if m = l then { s.decoder l with stream := none } else s.decoder m :=
  decoder_discardStream l m s

/-- No act touches an awaited acknowledgement (R127, R130). -/
theorem Act.awaiting (act : Act s t) (m : LineNo) : (t.decoder m).awaiting = (s.decoder m).awaiting := by
  cases act with
  | aside _ _ decoders => simp [State.decoder, decoders]
  | access | call | resumed => rfl
  | seized check l =>
    rw [State.decoder_setAccess, decoder_seizeLine]
    split
    · rename_i eq; subst eq; rfl
    · rfl
  | givenUp => rw [State.decoder_setAccess, decoder_of_listener (listener_releaseLine _ _ _ s)]
  | toned => rw [decoder_of_listener (listener_requestTone _ _ _ s)]
  | hungUp => rw [State.decoder_setCall, decoder_of_listener (listener_beginClosing s)]

theorem Acts.awaiting (acts : Acts s t) (m : LineNo) : (t.decoder m).awaiting = (s.decoder m).awaiting :=
  acts.keeps (P := fun u => (u.decoder m).awaiting = (s.decoder m).awaiting) (fun _ _ act same => (act.awaiting m).trans same) rfl

end

end Sys2Proof.Machine
end

section
/-! The access controller, the report queue and the trouble unit act by act. -/

namespace Sys2Proof.Machine

section
variable (s : State)

/-! ### The access controller -/

/-- The access controller in a state that holds no line may choose one. -/
def MayChoose (s : State) : Prop := MayAcquire s ∧ s.access.state.holds = none

theorem MayChoose.of_state {s : State} {a : AccessState} (h : s.access.state = a) (busy : a ≠ .idle) (nothing : a.holds = none) :
    MayChoose s := ⟨.of_state h busy, h ▸ nothing⟩

theorem acts_awaitLine (t0 : Nat) (may : MayChoose s) : Acts s (awaitLine t0 s) := by
  obtain ⟨may, nothing⟩ := may
  obtain ⟨_, h⟩ | ⟨_, _, _, h⟩ | ⟨_, _, _, _, h⟩ := awaitLine_cases s t0 <;> rw [h]
  · exact Act.one (.access _ (.inr rfl) nothing.symm)
  · exact Act.one (.access _ (.inl may) nothing.symm)
  · exact Act.one (.access _ (.inl may) nothing.symm)

theorem acts_moveCursor (l : LineNo) : Acts s (moveCursor l s) := Act.one (.aside rfl rfl rfl rfl rfl)

theorem idle_of_idleSeizeAccepted {l : LineNo} (accepted : idleSeizeAccepted l s = true) : (s.line l).state = .idle := by
  simp only [idleSeizeAccepted, Bool.and_eq_true, decide_eq_true_eq] at accepted
  exact accepted.1

theorem occupied_of_preemptSeizeAccepted {l : LineNo} (accepted : preemptSeizeAccepted l s = true) :
    (s.line l).state = .occupied := by
  simp only [preemptSeizeAccepted, Bool.and_eq_true, decide_eq_true_eq] at accepted
  exact accepted.1

theorem acts_takeIdle (t0 : Nat) (l : LineNo) (may : MayChoose s) (idle : (s.line l).state = .idle) :
    Acts s (takeIdle t0 l s) :=
  (Act.one (.seized true l (.check t0 l) may.1 may.2 (.inl idle) rfl)).trans (acts_moveCursor _ l)

theorem acts_chooseLine (t0 : Nat) (may : MayChoose s) : Acts s (chooseLine t0 s) := by
  have awaited := acts_awaitLine s t0 may
  obtain h | ⟨t, l, h, base, due, st, _, accepted, e⟩ := chooseLine_cases s t0
  · rw [h]; exact awaited
  · rw [e]
    refine awaited.trans (acts_takeIdle _ _ _ (.of_state st (by simp) rfl) ?_)
    rw [line_awaitLine]
    exact idle_of_idleSeizeAccepted s accepted

/-- The choice does not read the access state. -/
theorem chooseLine_setAccess (t0 : Nat) (a : AccessState) : chooseLine t0 (s.setAccess a) = chooseLine t0 s := by
  have awaited : awaitLine t0 (s.setAccess a) = awaitLine t0 s := by
    have first (c : ReportClass) : firstIdle (s.setAccess a) c = firstIdle s c := rfl
    have head : (s.setAccess a).headReport = s.headReport := rfl
    unfold awaitLine
    rw [head]
    cases s.headReport with
    | none => rfl
    | some r => simp only [first]; cases firstIdle s r.matter.cls <;> rfl
  unfold chooseLine
  rw [awaited]
  rfl

theorem acts_seizeChosen : Acts s (seizeChosen s) := by
  unfold seizeChosen; split
  · rename_i st
    have may : MayChoose s := .of_state st (by simp) rfl
    split
    · rename_i accepted
      exact acts_takeIdle s _ _ may (idle_of_idleSeizeAccepted s accepted)
    · exact acts_chooseLine s _ may
  · exact .refl

theorem acts_seizeIfDue : Acts s (seizeIfDue s) := by
  unfold seizeIfDue; split
  · split
    · exact acts_seizeChosen s
    · exact .refl
  · exact .refl

theorem acts_startAcquisition : Acts s (startAcquisition s) := by
  unfold startAcquisition; split
  · rename_i h
    exact acts_chooseLine s _ ⟨.inr h.2.1, by rw [h.1]; rfl⟩
  · exact .refl

/-- The line held is given up, and a line chosen: the access controller waits in between. -/
theorem acts_releaseAndChoose (t0 : Nat) {l : LineNo} (holds : s.access.state.heldLine = some l) :
    Acts s (releaseAndChoose t0 l s) := by
  have given : Acts s ((releaseLine .access .plain l s).setAccess (.wait 0 0 false)) :=
    Act.one (.givenUp .plain l _ (by simp) holds rfl)
  have chosen := acts_chooseLine ((releaseLine .access .plain l s).setAccess (.wait 0 0 false)) t0
    (.of_state (State.setAccess_state _ _) (by simp) rfl)
  rw [chooseLine_setAccess] at chosen
  exact given.trans chosen

theorem acts_releaseAndIdle {l : LineNo} (holds : s.access.state.heldLine = some l) : Acts s (releaseAndIdle l s) :=
  Act.one (.givenUp .plain l .idle (by simp) holds rfl)

theorem requestTone_setAccess (l : LineNo) (y : Sym) (d : Nat) (a : AccessState) :
    requestTone l y d (s.setAccess a) = (requestTone l y d s).setAccess a := by
  have line : (s.setAccess a).line l = s.line l := rfl
  have tone : (s.setAccess a).tone = s.tone := rfl
  unfold requestTone
  rw [line, tone]
  split
  · split <;> rfl
  · rfl

/-- A demand begins for a line that is held DEMANDING already. -/
theorem acts_beginDemand (t0 : Nat) {l : LineNo} {rec : PreemptRecord} (c : ReportClass)
    (st : s.access.state = .preempt t0 l rec) : Acts s (beginDemand t0 l rec c s) := by
  have toned := Act.one (Act.toned (s := s) l .d 600)
  refine toned.tail (.access _ (.inl ?_) ?_)
  · exact .inl (by rw [access_requestTone, st]; simp)
  · rw [access_requestTone, st]; rfl

theorem acts_preemptSeize (t0 : Nat) (l : LineNo) (c : ReportClass) (may : MayChoose s) : Acts s (preemptSeize t0 l c s) := by
  unfold preemptSeize; split
  · rename_i accepted
    let rec0 : PreemptRecord :=
      { occupant := (s.line l).occupant, phase := .demanding, demands := 0, soleSince := none, responseEnd := s.now
        digit := c, gapEnd := none, nextDemand := none }
    let seized := moveCursor l ((seizeLine false l s).setAccess (.preempt t0 l rec0))
    have moved : Acts s seized :=
      (Act.one (.seized false l (.preempt t0 l rec0) may.1 may.2 (.inr (occupied_of_preemptSeizeAccepted s accepted)) rfl)).trans
        (acts_moveCursor _ l)
    have same : beginDemand t0 l rec0 c seized = beginDemand t0 l rec0 c (moveCursor l (seizeLine false l s)) := by
      have eq : seized = (moveCursor l (seizeLine false l s)).setAccess (.preempt t0 l rec0) := rfl
      unfold beginDemand
      rw [eq, requestTone_setAccess]
      rfl
    exact moved.trans (same ▸ acts_beginDemand seized t0 c rfl)
  · exact acts_chooseLine s _ may

theorem acts_preemptionTest : Acts s (preemptionTest s) := by
  unfold preemptionTest; split
  · rename_i st _
    split
    · split
      · exact acts_preemptSeize s _ _ _ (.of_state st (by simp) rfl)
      · exact .refl
    · exact .refl
  · exact .refl

theorem acts_laterPreemptionTest : Acts s (laterPreemptionTest s) := by
  unfold laterPreemptionTest; split
  · exact acts_preemptionTest s
  · exact .refl

theorem acts_headLost : Acts s (headLost s) := by
  unfold headLost; split <;> rename_i st
  · exact .refl
  · exact Act.one (.access _ (.inr rfl) (by rw [st]; rfl))
  · exact Act.one (.access _ (.inr rfl) (by rw [st]; rfl))
  all_goals exact acts_releaseAndIdle s (by rw [st]; rfl)

theorem acts_headReplaced (r : Report) : Acts s (headReplaced r s) := by
  unfold headReplaced; split <;> rename_i st
  · exact acts_startAcquisition s
  · split
    · exact acts_chooseLine s _ (.of_state st (by simp) rfl)
    · exact acts_laterPreemptionTest s
  · split
    · exact (Act.one (.access _ (.inl (.of_state st (by simp))) (by rw [st]; rfl))).trans (acts_seizeIfDue _)
    · exact acts_chooseLine s _ (.of_state st (by simp) rfl)
  · exact .refl
  · split
    · split
      · exact .refl
      · exact acts_releaseAndChoose s _ (by rw [st]; rfl)
    · exact .refl
  · split
    · exact Act.one (.access _ (.inl (.of_state st (by simp))) (by rw [st]; rfl))
    · exact acts_releaseAndChoose s _ (by rw [st]; rfl)

theorem acts_accessHeadChange : Acts s (accessHeadChange s) := by
  unfold accessHeadChange; split
  · exact acts_headLost s
  · exact acts_headReplaced s _

theorem acts_accessLineNotice (l : LineNo) : Acts s (accessLineNotice l s) := by
  unfold accessLineNotice; split <;> rename_i st
  · split
    · split
      · exact acts_chooseLine s _ (.of_state st (by simp) rfl)
      · exact acts_laterPreemptionTest s
    · exact .refl
  · split
    · exact acts_chooseLine s _ (.of_state st (by simp) rfl)
    · exact .refl
  · split
    · exact acts_releaseAndChoose s _ (by rw [st]; rfl)
    · exact .refl
  all_goals exact .refl

theorem acts_accessOccupantNotice (l : LineNo) : Acts s (accessOccupantNotice l s) := by
  unfold accessOccupantNotice; split
  · exact acts_laterPreemptionTest s
  · exact .refl

/-! ### The head and the report queue -/

theorem acts_queue (q : Queue) : Acts s { s with queue := q } := Act.one (.aside rfl rfl rfl rfl rfl)
theorem acts_trouble (x : TroubleUnit) : Acts s { s with trouble := x } := Act.one (.aside rfl rfl rfl rfl rfl)
theorem acts_setReport (q : Nat) (f : Report → Report) : Acts s (s.setReport q f) := acts_queue s _
theorem acts_setCond (c : Condition) (f : ConditionRecord → ConditionRecord) : Acts s (s.setCond c f) := acts_trouble s _

theorem acts_decideHead : Acts s (decideHead s) := by
  unfold decideHead; split
  · exact .refl
  · dsimp only; split
    · exact (acts_queue s _).trans (acts_accessHeadChange _)
    · exact acts_queue s _

theorem acts_leaveClosed {t : State} (closed : Bookkept (beginClosing s) t) : Acts s (leaveCall t) := by
  have hungUp : Acts s ((beginClosing s).setCall fun _ => freshCall) := Act.one .hungUp
  have booked : Acts ((beginClosing s).setCall fun _ => freshCall) (t.setCall fun _ => freshCall) := by
    rw [closed.same]
    exact (acts_queue _ t.queue).trans (acts_trouble _ t.trouble)
  exact (hungUp.trans booked).trans (acts_startAcquisition _)

theorem acts_endUncharged (d c : Bool) : Acts s (endUncharged d c s) :=
  acts_leaveClosed s (bookkept_foldl (fun e t => returnUncharged d c e.seq t)
    (fun e t => bookkept_returnUncharged t d c e.seq) s.call.batch _ (closing_beginClosing s))

/-- A change of the call that goes on, in other fields than its state, line and pause. -/
theorem acts_setCall (f : Call → Call) (engaged : s.call.state ≠ .idle) (state : (f s.call).state = s.call.state)
    (line : (f s.call).line = s.call.line) (pause : (f s.call).pause = s.call.pause) : Acts s (s.setCall f) :=
  Act.one (.call f ⟨engaged, state ▸ engaged, fun closing => state ▸ closing, line, fun p eq => .inr ⟨p, pause ▸ eq, rfl⟩⟩)

/-- A change of the call that enters another state of a call in progress. -/
theorem acts_enterState (f : Call → Call) (engaged : s.call.state ≠ .idle) (stays : (f s.call).state ≠ .idle)
    (goesOn : (f s.call).state ≠ .closing) (line : (f s.call).line = s.call.line) (pause : (f s.call).pause = s.call.pause) :
    Acts s (s.setCall f) :=
  Act.one (.call f ⟨engaged, stays, fun closing => absurd closing goesOn, line, fun p eq => .inr ⟨p, pause ▸ eq, rfl⟩⟩)

theorem acts_taking (q : Nat) (batch : List BatchEntry) (out : List Nat) (head : Option Nat) (engaged : s.call.state ≠ .idle) :
    Acts s (taking q batch out head s) :=
  (acts_setCall s (fun c => { c with batch := batch }) engaged rfl rfl rfl).trans (acts_queue _ _)

theorem acts_offerReport (r : Report) : Acts s (offerReport r s) := by
  cases offered : s.inCall with
  | false =>
    have same : offerReport r s = s := by simp [offerReport, offered]
    rw [same]
  | true =>
    have engaged := engaged_of_inCall offered
    obtain h | ⟨_, _, _, _, h⟩ | ⟨_, _, _, _, h⟩ | ⟨_, _, _, _, _, h⟩ := offerReport_cases s r <;> rw [h]
    · rw [insertReport_eq engaged]; exact acts_taking s _ _ _ _ engaged
    · unfold suspendCall; split
      · exact acts_setCall s _ engaged rfl rfl rfl
      · exact acts_endUncharged s _ _
    · rw [appendReport_eq engaged]; exact acts_taking s _ _ _ _ engaged

theorem acts_placeReport (r : Report) : Acts s (placeReport r s) :=
  ((acts_queue s _).trans (acts_decideHead _)).trans (acts_offerReport _ _)

theorem acts_writeHistory (e : HistoryEntry) : Acts s (writeHistory e s) := acts_queue s _
theorem acts_giveSeq : Acts s (giveSeq s) := acts_queue s _
theorem acts_evict (v : Report) : Acts s (evict v s) := (acts_queue s _).trans (acts_writeHistory _ _)

theorem acts_enterReport (m : Matter) : Acts s (enterReport m s).1 := by
  obtain ⟨_, h⟩ | ⟨_, _, _, h⟩ | ⟨_, _, _, h⟩ | ⟨_, _, _, v, _, h⟩ | ⟨_, _, _, _, h⟩ := enterReport_cases s m <;> rw [h]
  · exact (acts_giveSeq s).trans (acts_writeHistory _ _)
  · exact (acts_giveSeq s).trans (acts_writeHistory _ _)
  · exact (acts_giveSeq s).trans (acts_placeReport _ _)
  · exact ((acts_giveSeq s).trans (acts_evict _ v)).trans (acts_placeReport _ _)
  · exact (acts_giveSeq s).trans (acts_queue _ _)

/-! ### The trouble unit (R36, R37, R138 to R144) -/

theorem acts_makePending (c : Condition) (m : Matter) : Acts s (makePending c m s) := acts_trouble s _

theorem acts_handTrouble (c : Condition) (m : Matter) : Acts s (handTrouble c m s).1 := by
  have h := acts_enterReport s m
  unfold handTrouble
  split <;> rename_i e <;> rw [e] at h
  · exact h.trans (acts_makePending _ _ _)
  · exact h

theorem acts_noticeOnly (c : Condition) (b : Bool) : Acts s (noticeOnly c b s).1 := by
  unfold noticeOnly; split
  · exact .refl
  · dsimp only; split
    · exact (acts_setCond s _ _).trans (acts_handTrouble _ _ _)
    · exact acts_setCond s _ _

theorem acts_overflowBegins (b : Bool) : Acts s (overflowBegins b s) := by
  unfold overflowBegins; split
  · exact acts_noticeOnly s _ _
  · exact .refl

theorem acts_tellTrouble (c : Condition) (b : Bool) : Acts s (tellTrouble c b s) :=
  (acts_noticeOnly s c b).trans (acts_overflowBegins _ _)

theorem acts_handReport (m : Matter) : Acts s (handReport m s) := by
  have h := acts_enterReport s m
  unfold handReport
  split <;> rename_i e <;> rw [e] at h
  · exact h.trans (acts_overflowBegins _ _)
  · exact h

theorem acts_handPending : ∀ (n : Nat) (s : State), Acts s (handPending n s)
  | 0, s => .refl
  | n + 1, s => by
    unfold handPending; split
    · exact .refl
    · rename_i p _
      have h := acts_enterReport s p.matter
      split <;> rename_i e <;> rw [e] at h
      · exact (h.trans (acts_makePending _ _ _)).trans (acts_overflowBegins _ _)
      · exact (h.trans (acts_setCond _ _ _)).trans (acts_handPending n _)

theorem acts_afterRemoval : Acts s (afterRemoval s) := by
  have told := (acts_queue s { s.queue with overflowMark := false }).trans (acts_tellTrouble _ .queueOverflow false)
  unfold afterRemoval; dsimp only; split <;> split
  · exact told.trans (acts_handPending _ _)
  · exact acts_handPending _ _
  · exact told
  · exact .refl

theorem acts_removeReport (r : Report) (f : Fate) : Acts s (removeReport r f s) :=
  (((acts_queue s _).trans (acts_writeHistory _ _)).trans (acts_decideHead _)).trans (acts_afterRemoval _)

end

end Sys2Proof.Machine
end

section
/-! The call engine, the channels and the port act by act. -/

namespace Sys2Proof.Machine

section
variable (s : State)

/-! ### The end of a call and the acknowledgement (R105, R107 to R109) -/

theorem acts_endCharged : Acts s (endCharged s) :=
  acts_leaveClosed s (bookkept_foldl (fun e t => returnCharged e.seq t)
    (fun e t => bookkept_returnCharged t e.seq) s.call.batch _ (closing_beginClosing s))

theorem acts_endCall (cause : EndCause) : Acts s (endCall cause s) := by
  cases cause
  case yielded | intruded | suspended | maintAbort => exact acts_endUncharged s _ _
  case noDialTone | destBusy | noAnswer | noAck | loopLost => exact acts_endCharged s

theorem acts_deliver (q : Nat) (l : Option LineNo) (d : Option DestId) : Acts s (deliver q l d s) := by
  unfold deliver; split
  · exact acts_removeReport s _ _
  · exact .refl

theorem acts_acked (engaged : s.call.state ≠ .idle) : Acts s (s.setCall (ackedCall s.now)) := by
  refine acts_enterState s _ engaged ?_ ?_ rfl rfl <;> unfold ackedCall <;> dsimp only <;> split_ifs <;> simp

theorem acts_countAck (engaged : s.call.state ≠ .idle) : Acts s (countAck s) := by
  have acked := acts_acked s engaged
  unfold countAck
  split
  · exact .refl
  · rename_i e rest batch
    have closing : (beginClosing (s.setCall (ackedCall s.now))).call.state = .closing := closing_beginClosing _
    have delivered := bookkept_deliver (beginClosing (s.setCall (ackedCall s.now))) e.seq s.call.line s.call.dest closing
    dsimp only
    split_ifs
    · exact acked.trans (acts_leaveClosed _ (delivered.andThen closing (bookkept_callSucceeded _)))
    · exact acked.trans (acts_leaveClosed _ (delivered.andThen closing
        (bookkept_foldl (fun e t => returnUncharged false false e.seq t)
          (fun e t => bookkept_returnUncharged t _ _ e.seq) _ _)))
    · exact acked.trans (acts_deliver _ _ _ _)

/-! ### Dialling and blocks (R100 to R103) -/

theorem acts_callTone (y : Sym) (d : Nat) : Acts s (callTone y d s) := by
  unfold callTone; split
  · exact Act.one (.toned _ _ _)
  · exact .refl

theorem acts_dialSymbol (engaged : s.call.state ≠ .idle) : Acts s (dialSymbol s) := by
  unfold dialSymbol; split
  · exact (acts_setCall s _ engaged rfl rfl rfl).trans (acts_callTone _ _ _)
  · exact acts_setCall s _ engaged rfl rfl rfl
  · exact acts_enterState s _ engaged (by simp) (by simp) rfl rfl

theorem acts_startDialling (engaged : s.call.state ≠ .idle) : Acts s (startDialling s) :=
  (acts_enterState s _ engaged (by simp) (by simp) rfl rfl).trans (acts_dialSymbol _ (by simp))

theorem acts_sendSymbol (engaged : s.call.state ≠ .idle) : Acts s (sendSymbol s) := by
  unfold sendSymbol; split
  · exact (acts_setCall s _ engaged rfl rfl rfl).trans (acts_callTone _ _ _)
  · exact acts_enterState s _ engaged (by simp) (by simp) rfl rfl

theorem acts_beginBlock (engaged : s.call.state ≠ .idle) : Acts s (beginBlock s) :=
  (acts_enterState s _ engaged (by simp) (by simp) rfl rfl).trans (acts_sendSymbol _ (by simp))

theorem acts_endDialGap (engaged : s.call.state ≠ .idle) : Acts s (endDialGap s) := by
  unfold endDialGap; split
  · exact (acts_setCall s _ engaged rfl rfl rfl).trans (acts_dialSymbol _ (by exact engaged))
  · exact acts_dialSymbol s engaged

theorem acts_expireAck (engaged : s.call.state ≠ .idle) : Acts s (expireAck s) := by
  have expired := acts_setCall s (fun c => { c with ackDeadline := none, ackExpired := some s.now }) engaged rfl rfl rfl
  unfold expireAck; dsimp only; split_ifs
  · exact expired.trans (acts_setCall _ _ (by exact engaged) rfl rfl rfl)
  · exact expired.trans (acts_beginBlock _ (by exact engaged))
  · exact acts_endCall s _

/-! ### The pause (R112 to R117) -/

theorem acts_setPause (f : PauseRecord → PauseRecord) (from_ : ∀ p, (f p).from_ = p.from_) (engaged : s.call.state ≠ .idle) :
    Acts s (s.setPause f) := by
  refine Act.one (.call _ ⟨engaged, engaged, id, rfl, fun p e => .inr ?_⟩)
  obtain ⟨q, before, rfl⟩ := Option.map_eq_some_iff.1 e
  exact ⟨q, before, from_ q⟩

theorem acts_pauseCall : Acts s (pauseCall s) := by
  have paused (pausable : s.call.state.pausable = true) : Acts s (s.setCall fun c =>
      { c with
        state := .paused, gapEnd := none, inPauseMark := false
        pause := some ⟨c.state, s.now + 1000, none, false⟩ }) := by
    have engaged : s.call.state ≠ .idle := fun idle => by simp [idle, CallState.pausable] at pausable
    refine Act.one (.call _ ⟨engaged, by simp, by simp, rfl, fun p e => .inl ?_⟩)
    cases e; exact pausable
  unfold pauseCall; split
  case h_6 st => exact acts_setPause s _ (fun _ => rfl) (by simp [st])
  case h_7 | h_8 => exact .refl
  all_goals rename_i st; exact paused (by rw [st]; rfl)

theorem acts_callLoopLoss : Acts s (callLoopLoss s) := by
  unfold callLoopLoss; split
  · exact acts_endCall s _
  · exact .refl

theorem acts_takeHeldReport (h : HeldReport) : Acts s (takeHeldReport h s) := by
  unfold takeHeldReport; split
  · exact .refl
  · exact acts_pauseCall s
  · exact acts_callLoopLoss s

theorem acts_takeHeldReports : ∀ (l : List HeldReport) (s : State), Acts s (l.foldl (fun t h => takeHeldReport h t) s)
  | [], _ => .refl
  | h :: l, s => (acts_takeHeldReport s h).trans (acts_takeHeldReports l _)

theorem acts_resumeCall (engaged : s.call.state ≠ .idle) : Acts s (resumeCall s) := by
  unfold resumeCall; split
  · exact .refl
  · rename_i p pause
    have resumed : Acts s (s.setCall fun c => { c with state := p.from_, pause := none }) :=
      Act.one (.resumed p engaged pause)
    have back {st : CallState} (from_ : p.from_ = st) (busy : st ≠ .idle) :
        (s.setCall fun c => { c with state := p.from_, pause := none }).call.state ≠ .idle := from_ ▸ busy
    dsimp only; split <;> rename_i st
    · split
      · exact resumed.trans (acts_startDialling _ (back st (by simp)))
      · exact resumed
    · exact resumed.trans (acts_dialSymbol _ (back st (by simp)))
    · split
      · exact resumed.trans (acts_beginBlock _ (back st (by simp)))
      · exact resumed
    · exact resumed.trans (acts_beginBlock _ (back st (by simp)))
    · split
      · exact resumed.trans (acts_beginBlock _ (back st (by simp)))
      · exact resumed
    all_goals exact resumed

theorem acts_answerDemand (c : ReportClass) (engaged : s.call.state ≠ .idle) : Acts s (answerDemand c s) := by
  unfold answerDemand; split
  · split
    · exact acts_endCall s _
    · exact acts_resumeCall s engaged
  · exact acts_resumeCall s engaged

theorem acts_endPause (engaged : s.call.state ≠ .idle) : Acts s (endPause s) := by
  unfold endPause; split
  · exact .refl
  · split
    · exact acts_endCall s _
    · exact acts_resumeCall s engaged

theorem acts_pausedSymbol (y : Sym) (d : Nat) (engaged : s.call.state ≠ .idle) : Acts s (pausedSymbol y d s) := by
  unfold pausedSymbol; split
  · exact .refl
  · split
    · exact acts_setPause s _ (fun _ => rfl) engaged
    · split
      · exact acts_answerDemand s _ engaged
      · exact acts_setPause s _ (fun _ => rfl) engaged

/-! ### Reports of the call's line (R100 to R107, R113) -/

theorem acts_callDial : Acts s (callDial s) := by
  unfold callDial; split
  · rename_i st; exact acts_startDialling s (by simp [st])
  · rename_i st
    have engaged : s.call.state ≠ .idle := by simp [st]
    split
    · exact (acts_setCall s _ engaged rfl rfl rfl).trans (acts_setPause _ _ (fun _ => rfl) (by exact engaged))
    · exact .refl
  · exact .refl

theorem acts_callBusy : Acts s (callBusy s) := by
  unfold callBusy; split
  · exact acts_endCall s _
  · exact .refl

theorem acts_callHandshake : Acts s (callHandshake s) := by
  unfold callHandshake; split
  · rename_i h; exact acts_setCall s _ (engaged_of_working h (by simp)) rfl rfl rfl
  · exact .refl

theorem acts_callHandshakeEnd : Acts s (callHandshakeEnd s) := by
  unfold callHandshakeEnd; split
  · rename_i h; exact acts_setCall s _ (engaged_of_working h (by simp)) rfl rfl rfl
  · exact .refl

theorem acts_callAck : Acts s (callAck s) := by
  unfold callAck; split
  · rename_i st; split
    · exact acts_countAck s (by simp [st])
    · exact .refl
  · rename_i st; split
    · exact acts_countAck s (by simp [st])
    · exact .refl
  · rename_i st; split
    · exact acts_countAck s (by simp [st])
    · exact .refl
  · exact .refl

theorem acts_callAckEnd : Acts s (callAckEnd s) := by
  unfold callAckEnd; split
  · rename_i h; exact acts_setCall s _ (engaged_of_working h.1 (by simp)) rfl rfl rfl
  · exact .refl

theorem acts_callSymbol (y : Sym) (d : Nat) : Acts s (callSymbol y d s) := by
  unfold callSymbol; split
  · rename_i st; exact acts_pausedSymbol s _ _ (by simp [st])
  · exact .refl

theorem acts_callToneDone (l : LineNo) : Acts s (callToneDone l s) := by
  unfold callToneDone; split
  · split
    · rename_i st; exact acts_setCall s _ (by simp [st]) rfl rfl rfl
    · rename_i st; exact acts_setCall s _ (by simp [st]) rfl rfl rfl
    · exact .refl
  · exact .refl

/-! ### The access controller as holder (R87, R90, R91, R93) -/

/-- The access controller notes something in a state that holds the same line. -/
theorem acts_note {a b : AccessState} (st : s.access.state = a) (busy : a ≠ .idle) (holds : b.holds = a.holds) :
    Acts s (s.setAccess b) :=
  Act.one (.access b (.inl (.of_state st busy)) (by rw [st, holds]))

theorem acts_accessToneDone (l : LineNo) (y : Sym) : Acts s (accessToneDone l y s) := by
  unfold accessToneDone; split
  · rename_i st
    split
    · split
      · exact acts_note s st (by simp) rfl
      · split
        · exact acts_note s st (by simp) rfl
        · exact .refl
    · exact .refl
  · exact .refl

theorem acts_passWithGrant (h : HeldReport) : Acts s (passWithGrant h s) := by
  unfold passWithGrant; split
  · rename_i st; exact acts_note s st (by simp) rfl
  · exact .refl

theorem acts_accessCurrentChange (b : CurrentBand) : Acts s (accessCurrentChange b s) := by
  unfold accessCurrentChange; split
  · rename_i st
    split
    · exact acts_note s st (by simp) rfl
    · exact .refl
  · exact acts_passWithGrant s _
  · exact .refl

theorem acts_accessLoopLoss : Acts s (accessLoopLoss s) := by
  unfold accessLoopLoss; split
  · rename_i st
    split
    · exact acts_releaseAndChoose s _ (by rw [st]; rfl)
    · exact .refl
  · exact acts_passWithGrant s _
  · exact .refl

theorem acts_expirePreemptWait : Acts s (expirePreemptWait s) := by
  unfold expirePreemptWait; split
  · rename_i st; exact (acts_note (b := .wait _ _ true) s st (by simp) rfl).trans (acts_preemptionTest _)
  · exact .refl

theorem acts_repeatDemand : Acts s (repeatDemand s) := by
  unfold repeatDemand; split
  · rename_i st _; exact acts_beginDemand s _ _ st
  · exact .refl

theorem acts_sendClassDigit : Acts s (sendClassDigit s) := by
  unfold sendClassDigit; split
  · rename_i t0 l rec st
    have same : (requestTone l (digitSym rec.digit.rank) 200 s).access.state = .preempt t0 l rec := by
      rw [access_requestTone, st]
    exact (Act.one (.toned l (digitSym rec.digit.rank) 200)).trans (acts_note _ same (by simp) rfl)
  · exact .refl

theorem raiseHeadContention_setAccess (a : AccessState) :
    raiseHeadContention (s.setAccess a) = (raiseHeadContention s).setAccess a := by
  have head : (s.setAccess a).queue.head = s.queue.head := rfl
  unfold raiseHeadContention
  rw [head]
  cases s.queue.head <;> rfl

theorem acts_raiseHeadContention : Acts s (raiseHeadContention s) := by
  unfold raiseHeadContention; split
  · exact acts_setReport s _ _
  · exact .refl

/-- The head's contention raised and a line chosen, whatever line the access state still names (R83, R92). -/
theorem acts_chargeAndChoose (now t0 : Nat) :
    Acts (s.setAccess (.wait now now false)) (chooseLine t0 (raiseHeadContention s)) := by
  have raised := acts_raiseHeadContention (s.setAccess (.wait now now false))
  rw [raiseHeadContention_setAccess] at raised
  have chosen := acts_chooseLine ((raiseHeadContention s).setAccess (.wait now now false)) t0
    (.of_state (State.setAccess_state _ _) (by simp) rfl)
  rw [chooseLine_setAccess] at chosen
  exact raised.trans chosen

theorem acts_failPreempt : Acts s (failPreempt s) := by
  unfold failPreempt; split
  · rename_i l _ st
    have given : Acts s ((releaseLine .access .noYield l s).setAccess (.wait 0 0 false)) :=
      Act.one (.givenUp .noYield l _ (by simp) (by rw [st]; rfl) rfl)
    exact given.trans (acts_chargeAndChoose _ _ _)
  · exact .refl

end

end Sys2Proof.Machine
end

section
/-! What a channel does, act by act: its record changes, reports are handed, and the trouble unit is told (chapter 1). -/

namespace Sys2Proof.Machine

/-- One act of a channel: a change of its record, a report handed, or a notice to the trouble unit. -/
inductive ChannelAct (c : ChannelNo) (s : State) : State → Prop
  | record (f : Channel → Channel) : ChannelAct c s (s.setChan c f)
  | handed (m : Matter) : ChannelAct c s (handReport m s)
  | told (d : Condition) (b : Bool) : ChannelAct c s (tellTrouble d b s)

/-- A chain of acts of a channel. -/
abbrev ChannelActs (c : ChannelNo) : State → State → Prop := Relation.ReflTransGen (ChannelAct c)

section
variable {c : ChannelNo} (s : State)

theorem channelActs_setChan (f : Channel → Channel) : ChannelActs c s (s.setChan c f) := .single (.record f)
theorem channelActs_handReport (m : Matter) : ChannelActs c s (handReport m s) := .single (.handed m)
theorem channelActs_tellTrouble (d : Condition) (b : Bool) : ChannelActs c s (tellTrouble d b s) := .single (.told d b)

end

section
variable (s : State) (c : ChannelNo)

theorem channelActs_handChannel (q : Qualifier) (v : Option Nat) : ChannelActs c s (handChannel c q v s) := by
  unfold handChannel; split
  · exact .refl
  · exact (channelActs_setChan s _).trans (channelActs_handReport _ _)

theorem channelActs_contactAlarm : ChannelActs c s (contactAlarm c s) := (channelActs_setChan s _).trans (channelActs_handChannel _ _ _ _)

theorem channelActs_contactActive : ChannelActs c s (contactActive c s) := by
  unfold contactActive; dsimp only; split
  · exact channelActs_contactAlarm s c
  · exact channelActs_setChan s _

theorem channelActs_contactRestore : ChannelActs c s (contactRestore c s) := by
  unfold contactRestore; dsimp only; split
  · exact (channelActs_setChan s _).trans (channelActs_handChannel _ _ _ _)
  · exact channelActs_setChan s _

theorem channelActs_contactNormal : ChannelActs c s (contactNormal c s) := by
  unfold contactNormal; dsimp only; split
  · exact channelActs_contactRestore s c
  · exact channelActs_setChan s _

theorem channelActs_contactChange : ChannelActs c s (contactChange c s) := by
  unfold contactChange; dsimp only; split
  · exact channelActs_contactActive s c
  · exact channelActs_setChan s _
  · split
    · exact channelActs_contactAlarm s c
    · exact .refl
  · exact channelActs_contactNormal s c
  · exact channelActs_setChan s _
  · split
    · exact channelActs_contactRestore s c
    · exact .refl
  · exact .refl

theorem channelActs_pulse : ChannelActs c s (pulse c s) := by
  unfold pulse; dsimp only; split
  · split
    · exact ((channelActs_setChan s _).trans (channelActs_setChan _ _)).trans (channelActs_handChannel _ _ _ _)
    · exact channelActs_setChan s _
  · exact .refl

theorem channelActs_bandChange (old : Band) : ChannelActs c s (bandChange c old s) := by
  unfold bandChange; dsimp only; split
  · exact .refl
  · exact channelActs_contactChange s c
  all_goals
    split
    · exact channelActs_pulse s c
    · exact .refl

theorem channelActs_flowNormal (rate : Nat) : ChannelActs c s (flowNormal c rate s) := by
  unfold flowNormal; dsimp only; split
  · split
    · exact channelActs_setChan s _
    · exact (channelActs_setChan s _).trans (channelActs_handChannel _ _ _ _)
  · exact channelActs_setChan s _

theorem channelActs_flowAlarm (rate : Nat) : ChannelActs c s (flowAlarm c rate s) := by
  rw [flowAlarm_eq]
  dsimp only; split
  · exact channelActs_setChan s _
  · split
    · exact channelActs_setChan s _
    · split
      · exact (channelActs_setChan s _).trans (channelActs_handChannel _ _ _ _)
      · exact channelActs_setChan s _

theorem channelActs_countWindow (hold : Nat) : ChannelActs c s (countWindow c hold s) := by
  unfold countWindow; dsimp only; split
  · split
    · exact (channelActs_setChan s _).trans (channelActs_handChannel _ _ _ _)
    · exact channelActs_setChan s _
  · exact .refl

theorem channelActs_endWindow (e : Nat) : ChannelActs c s (endWindow c e s) := by
  rw [endWindow_eq]
  split
  · exact (channelActs_setChan s _).trans (channelActs_flowNormal _ _ _)
  · split
    · exact (channelActs_setChan s _).trans (channelActs_flowAlarm _ _ _)
    · split
      · exact (channelActs_setChan s _).trans (channelActs_countWindow _ _ _)
      · exact channelActs_setChan s _

theorem channelActs_exitState (memory : Bool) : ChannelActs c s (exitState c memory s) := by
  unfold exitState; dsimp only; split
  · exact .refl
  · split
    · exact channelActs_setChan s _
    · exact (channelActs_setChan s _).trans (channelActs_contactNormal _ _)
    · exact (channelActs_setChan s _).trans (channelActs_contactActive _ _)
    · exact channelActs_setChan s _
  all_goals exact channelActs_setChan s _

theorem channelActs_faultExit (old : Band) : ChannelActs c s (faultExit c old s) :=
  ((channelActs_setChan s _).trans (channelActs_tellTrouble _ _ _)).trans (channelActs_exitState _ _ _)

theorem channelActs_bypassChannel : ChannelActs c s (bypassChannel c s) := by
  unfold bypassChannel; split
  · exact .refl
  · exact (channelActs_setChan s _).trans (channelActs_handReport _ _)

theorem channelActs_catchUp : ChannelActs c s (catchUp c s) := by
  rw [catchUp_eq]; split
  · exact channelActs_handChannel s c _ _
  · split
    · exact channelActs_handChannel s c _ _
    · exact .refl

theorem channelActs_unbypassChannel : ChannelActs c s (unbypassChannel c s) := by
  unfold unbypassChannel; split
  · exact ((channelActs_setChan s _).trans (channelActs_handReport _ _)).trans (channelActs_catchUp _ _)
  · exact .refl

theorem channelActs_expireConfirm : ChannelActs c s (expireConfirm c s) := by
  unfold expireConfirm; split
  · exact channelActs_contactAlarm s c
  · exact channelActs_setChan s _

theorem channelActs_expireRestore : ChannelActs c s (expireRestore c s) := by
  unfold expireRestore; split
  · exact channelActs_contactRestore s c
  · exact channelActs_setChan s _

theorem channelActs_sampleChannel (b : Band) : ChannelActs c s (sampleChannel c b s) := by
  unfold sampleChannel; split
  · exact .refl
  · exact channelActs_setChan s _

/-- Every event of a channel is a chain of that channel's acts. -/
theorem channelActs_exec {i : Instr} {t : State} {c : ChannelNo} (event : channelEvent i = some c)
    (taken : exec i s = .next t) : ChannelActs c s t := by
  cases i <;> cases event <;> unfold exec at taken <;> refine of_whenDue taken .refl ?_
  case channelSample => exact channelActs_sampleChannel s c _
  case channelBandQualified => exact (channelActs_setChan s _).trans (channelActs_bandChange _ _ _)
  case confirmTimerExpiry => exact channelActs_expireConfirm s c
  case restoreTimerExpiry => exact channelActs_expireRestore s c
  case windowEnd => exact channelActs_endWindow s c _
  case wiringFaultEntry => exact (channelActs_setChan s _).trans (channelActs_tellTrouble _ _ _)
  case wiringFaultBandChange =>
    exact ((channelActs_setChan s _).trans (channelActs_tellTrouble _ _ _)).trans (channelActs_tellTrouble _ _ _)
  case wiringFaultExit => exact channelActs_faultExit s c _

end

end Sys2Proof.Machine
end


section
/-! The channels and the maintenance port, in the acts of the access controller and the call engine. -/

namespace Sys2Proof.Machine

section
variable (s : State)

theorem acts_setChan (c : ChannelNo) (f : Channel → Channel) : Acts s (s.setChan c f) := Act.one (.aside rfl rfl rfl rfl rfl)
theorem acts_setPort (f : Port → Port) : Acts s (s.setPort f) := Act.one (.aside rfl rfl rfl rfl rfl)

/-- What a channel does leads to no other acts on the lines than its reports and notices do. -/
theorem acts_of_channelActs {s t : State} {c : ChannelNo} (h : ChannelActs c s t) : Acts s t := by
  induction h with
  | refl => exact .refl
  | tail _ last ih =>
    refine ih.trans ?_
    cases last with
    | record => exact acts_setChan _ _ _
    | handed => exact acts_handReport _ _
    | told => exact acts_tellTrouble _ _ _

/-! ### The maintenance port (chapter 9) -/

theorem acts_sendAnswer (ls : List Text) (restart : Bool) : Acts s (sendAnswer ls restart s) := acts_setPort s _
theorem acts_answerOk (ls : List Text) : Acts s (answerOk ls s) := acts_sendAnswer s _ _
theorem acts_answerError (e : ErrorCode) : Acts s (answerError e s) := acts_sendAnswer s _ _

theorem acts_abortAcquisition : Acts s (abortAcquisition s) := by
  have ended : Acts s (acquisitionEnded s) := by
    cases holds : s.access.state.heldLine with
    | none =>
      have nothing := AccessState.heldLine_eq_none.1 holds
      have same : acquisitionEnded s = s.setAccess .idle := by simp [acquisitionEnded, nothing]
      rw [same]
      exact Act.one (.access _ (.inr rfl) nothing.symm)
    | some l => rw [acquisitionEnded_of_holds s holds]; exact acts_releaseAndIdle s holds
  cases head : s.queue.head with
  | none => rw [abortAcquisition_no_head s head]; exact ended
  | some q => rw [abortAcquisition_head s head]; exact (ended.trans (acts_setReport _ _ _)).trans (acts_decideHead _)

theorem acts_onChannel (n : Nat) (act : ChannelNo → State → State) (one : ∀ c, ChannelActs c s (act c s)) :
    Acts s (onChannel n act s) := by
  unfold onChannel; split
  · exact acts_answerError s _
  · rename_i c _
    split
    · exact acts_answerError s _
    · exact (acts_of_channelActs (one c)).trans (acts_answerOk _ _)

theorem acts_doTest : Acts s (doTest s) := by
  unfold doTest; split
  · exact acts_answerError s _
  · exact (acts_handReport s _).trans (acts_answerOk _ _)

theorem acts_doAbort : Acts s (doAbort s) := by
  have aborted : Acts s (if s.access.state ≠ .idle then abortAcquisition s else s) := by
    split
    · exact acts_abortAcquisition s
    · exact .refl
  unfold doAbort; dsimp only; split
  · refine Relation.ReflTransGen.trans ?_ (acts_answerOk _ _)
    split
    · exact aborted.trans (acts_endCall _ _)
    · exact aborted
  · exact acts_answerError s _

theorem acts_doCommand (p : PortCommand) : Acts s (doCommand p s) := by
  cases p
  case hist n => unfold doCommand doHist; dsimp only; split <;> exact acts_sendAnswer s _ _
  case chan n => unfold doCommand doChan; dsimp only; split <;> exact acts_sendAnswer s _ _
  case ack => exact (acts_trouble s _).trans (acts_answerOk _ _)
  case bypass => exact acts_onChannel s _ _ (channelActs_bypassChannel s)
  case unbypass => exact acts_onChannel s _ _ (channelActs_unbypassChannel s)
  case test => exact acts_doTest s
  case abort => exact acts_doAbort s
  all_goals exact acts_sendAnswer s _ _

theorem acts_takeLine (w : PortLine) : Acts s (takeLine w s) := by
  unfold takeLine; split
  · exact acts_answerError s _
  · split
    · exact .refl
    · split
      · exact acts_doCommand s _
      · exact acts_answerError s _

theorem acts_takeWaiting : ∀ (l : List PortLine) (s : State), Acts s (takeWaiting l s)
  | [], s => acts_setPort s _
  | w :: rest, s => by
    unfold takeWaiting; dsimp only; split
    · exact (acts_takeLine s w).trans (acts_setPort _ _)
    · exact (acts_takeLine s w).trans (acts_takeWaiting rest _)

theorem acts_takeCharacter (code : Nat) : Acts s (takeCharacter code s) := by
  have completed (w : PortLine) (u : State) : Acts u (completeLine w u) := by
    unfold completeLine; split
    · exact acts_setPort u _
    · exact acts_takeLine u w
  unfold takeCharacter; split
  · exact acts_setPort s _
  · split
    · exact (acts_setPort s _).trans (completed _ _)
    · split
      · exact acts_setPort s _
      · exact .refl

theorem acts_giveCommand (p : PortCommand) : Acts s (giveCommand p (doCommand p) s) := by
  obtain ⟨_, h⟩ | ⟨_, _, _, h⟩ | ⟨_, _, _, h⟩ | ⟨_, _, h⟩ := giveCommand_cases s p (doCommand p) <;> rw [h]
  · exact acts_doCommand s p
  · exact acts_answerError s _
  · exact acts_setPort s _

theorem acts_expireTestTimer : Acts s (expireTestTimer s) := by
  unfold expireTestTimer; dsimp only; split
  · exact acts_trouble s _
  · exact (acts_trouble s _).trans (acts_handReport _ _)

/-- The port's events. -/
theorem acts_portEvent {i : Instr} {t : State} (port : portEvent i = true) (taken : exec i s = .next t) : Acts s t := by
  cases i <;> cases port <;> unfold exec at taken
  case characterReceived => exact of_whenDue taken .refl (acts_takeCharacter s _)
  case ident => cases taken; exact acts_giveCommand s .ident
  case status => cases taken; exact acts_giveCommand s .status
  case queue => cases taken; exact acts_giveCommand s .queue
  case hist n => cases taken; exact acts_giveCommand s (.hist n)
  case lines => cases taken; exact acts_giveCommand s .lines
  case chan n => cases taken; exact acts_giveCommand s (.chan n)
  case trouble => cases taken; exact acts_giveCommand s .trouble
  case ack => cases taken; exact acts_giveCommand s .ack
  case bypass n => cases taken; exact acts_giveCommand s (.bypass n)
  case unbypass n => cases taken; exact acts_giveCommand s (.unbypass n)
  case test => cases taken; exact acts_giveCommand s .test
  case abort => cases taken; exact acts_giveCommand s .abort
  case restart => cases taken; exact acts_giveCommand s .restart

end

end Sys2Proof.Machine
end

section
/-! Every step keeps the lines and the blocks that hold them in agreement (R51, R52, R59, R62, R68, R87, R97). -/

namespace Sys2Proof.Machine

/-! ### What the trouble unit makes of one notice -/

/-- Two states that differ only in the queue and the trouble unit. -/
def Booked (s t : State) : Prop := t = { s with queue := t.queue, trouble := t.trouble }

section
variable {s t u : State}

theorem Booked.refl (s : State) : Booked s s := rfl

theorem Booked.trans (h : Booked s t) (k : Booked t u) : Booked s u := by
  have e : u = _ := k
  rw [h] at e
  exact e

theorem Booked.heldSound (h : Booked s t) (sound : HeldSound s) : HeldSound t := by
  rw [h]; exact sound.congr rfl rfl rfl rfl

end

section
variable (s : State)

theorem booked_trouble (x : TroubleUnit) : Booked s { s with trouble := x } := rfl
theorem booked_queue (q : Queue) : Booked s { s with queue := q } := rfl

/-- A report handed is written off or refused, or placed after a change of the books alone. -/
theorem enterReport_booked (m : Matter) :
    (Booked s (enterReport m s).1 ∧ (enterReport m s).2 ≠ .placed) ∨
    (∃ r u, Booked s u ∧ enterReport m s = (placeReport r u, .placed)) := by
  obtain ⟨_, h⟩ | ⟨_, _, _, h⟩ | ⟨_, _, _, h⟩ | ⟨_, _, _, v, _, h⟩ | ⟨_, _, _, _, h⟩ := enterReport_cases s m
  · exact .inl ⟨by rw [h]; exact booked_queue s _, by rw [h]; simp⟩
  · exact .inl ⟨by rw [h]; exact booked_queue s _, by rw [h]; simp⟩
  · exact .inr ⟨_, giveSeq s, booked_queue s _, h⟩
  · exact .inr ⟨_, evict v (giveSeq s), booked_queue s _, h⟩
  · exact .inl ⟨by rw [h]; exact booked_queue s _, by rw [h]; simp⟩

/-- A notice changes the books alone, or has one report placed after it does. -/
theorem noticeOnly_booked (c : Condition) (b : Bool) :
    Booked s (noticeOnly c b s).1 ∨ (∃ r u, Booked s u ∧ noticeOnly c b s = (placeReport r u, false)) := by
  have changed : Booked s (s.setCond c (·.change b s.clock)) := rfl
  unfold noticeOnly; split
  · exact .inl (.refl s)
  · dsimp only; split
    · obtain ⟨books, unplaced⟩ | ⟨r, u, books, placed⟩ :=
        enterReport_booked (s.setCond c (·.change b s.clock)) (c.report b s.clock)
      · refine .inl (changed.trans ?_)
        unfold handTrouble
        split <;> rename_i e <;> rw [e] at books
        · exact books.trans (booked_trouble _ _)
        · exact books
      · exact .inr ⟨r, u, changed.trans books, by rw [handTrouble, placed]⟩
    · exact .inl changed

/-- A notice to the trouble unit has at most one report placed, and before it changes the books alone. -/
theorem tellTrouble_booked (c : Condition) (b : Bool) :
    Booked s (tellTrouble c b s) ∨ ∃ r u, Booked s u ∧ tellTrouble c b s = placeReport r u := by
  unfold tellTrouble
  obtain books | ⟨r, u, books, placed⟩ := noticeOnly_booked s c b
  · dsimp only
    unfold overflowBegins; split
    · obtain more | ⟨r, u, more, placed⟩ := noticeOnly_booked (noticeOnly c b s).1 .queueOverflow true
      · exact .inl (books.trans more)
      · exact .inr ⟨r, u, books.trans more, by rw [placed]⟩
    · exact .inl books
  · exact .inr ⟨r, u, books, by rw [placed]; rfl⟩

/-- In AC_CHECK without a call a notice to the trouble unit changes the books, and ends the acquisition if no head is left (R86). -/
theorem tellTrouble_check {t0 : Nat} {l : LineNo} (access : s.access.state = .check t0 l) (idle : s.call.state = .idle)
    (c : Condition) (b : Bool) :
    Booked s (tellTrouble c b s) ∨ ∃ u, Booked s u ∧ tellTrouble c b s = releaseAndIdle l u := by
  obtain books | ⟨r, u, books, placed⟩ := tellTrouble_booked s c b
  · exact .inl books
  · let v : State := { u with queue := { u.queue with reports := insertInOrder r u.queue.reports } }
    have same : placeReport r u = offerReport r (decideHead v) := rfl
    have put : Booked s v := books.trans rfl
    have idle' : v.call.state = .idle := by rw [put]; exact idle
    have access' : v.access.state = .check t0 l := by rw [put]; exact access
    have unoffered : offerReport r (decideHead v) = decideHead v :=
      offerReport_outside r (.inl (by rw [(headOnly_decideHead v).call]; exact idle'))
    rw [placed, same, unoffered]
    unfold decideHead; split
    · exact .inl put
    · dsimp only
      let w : State := { v with queue := { v.queue with head := v.firstEligible } }
      have noted : Booked s w := put.trans rfl
      have access'' : w.access.state = .check t0 l := access'
      show Booked s (accessHeadChange w) ∨ ∃ u, Booked s u ∧ accessHeadChange w = releaseAndIdle l u
      cases head : w.headReport with
      | none => exact .inr ⟨w, noted, by simp [accessHeadChange, head, headLost, access'']⟩
      | some r => rw [accessHeadChange_check head access'']; exact .inl noted

end

/-! ### Lines that change state of themselves (R53 to R57, R61) -/

section
variable {s : State} (h : HeldSound s)
include h

/-- A line that is not taken takes another state, and stays untaken. -/
theorem HeldSound.setFree (m : LineNo) (f : Line → Line) (free : (s.line m).state.taken = false) (sound : (f (s.line m)).sound)
    (free' : (f (s.line m)).state.taken = false) : HeldSound (s.setLine m f) :=
  h.setLine m f sound (by rw [sound.noHolder free', (h.sound m).noHolder free]) fun taken => by simp [free] at taken

theorem HeldSound.deadFault (l : LineNo) (faulty : (s.line l).state = .suspect ∨ (s.line l).state = .faulted) :
    HeldSound (deadFault l s) := by
  unfold Machine.deadFault; split
  · rename_i faulted
    refine (acts_tellTrouble _ _ _).heldSound (h.setLine_aside l _ ?_ rfl rfl rfl)
    obtain ⟨unfitted, taken, brk, check, current, sampled, onhook, occupant, noYield, -⟩ := h.sound l
    exact ⟨unfitted, taken, brk, check, current, sampled, onhook, occupant, noYield, by simp [faulted]⟩
  · rename_i notFaulted
    have suspect := faulty.resolve_right notFaulted
    have faulted := h.setFree l (fun ln => { ln with state := .faulted, enteredAt := s.now, periodOver := false, faultCause := some .dead })
      (by rw [suspect]; rfl) (Line.sound_faulted (h.sound l) suspect _) rfl
    exact Acts.heldSound ((acts_accessLineNotice _ _).trans (acts_tellTrouble _ _ _)) faulted

theorem HeldSound.enterOnhook (l : LineNo) (b : OnhookBand) (free : (s.line l).state.taken = false)
    (fitted : (s.line l).state ≠ .unfitted) : HeldSound (enterOnhook l b s) := by
  have entered := h.setFree l (Line.enterOnhook s.now b) free (Line.sound_enterOnhook (h.sound l) free fitted _ b)
    (by cases b <;> rfl)
  have acts := acts_accessLineNotice (s.setLine l (Line.enterOnhook s.now b)) l
  have told := acts.heldSound entered
  unfold Machine.enterOnhook; dsimp only; split
  · rename_i dead
    have suspect : ((s.setLine l (Line.enterOnhook s.now b)).line l).state = .suspect := by
      rw [State.line_setLine, dead.1]; rfl
    refine told.deadFault l (.inl ?_)
    rw [acts.line (by rw [suspect]; rfl), suspect]
  · exact told

theorem HeldSound.endPeriod (l : LineNo) (free : (s.line l).state.taken = false) (fitted : (s.line l).state ≠ .unfitted) :
    HeldSound (endPeriod l s) := by
  unfold Machine.endPeriod; split
  · exact h.enterOnhook l _ free fitted
  · exact h.setLine_aside l _ (h.sound l) rfl rfl rfl

theorem HeldSound.qualifyOnhook (l : LineNo) (senses : sensesVoltage l s = true) : HeldSound (qualifyOnhook l s) := by
  simp only [sensesVoltage, Bool.and_eq_true, decide_eq_true_eq] at senses
  obtain ⟨⟨-, fitted⟩, notHeld⟩ := senses
  have qualified : HeldSound (s.setLine l fun ln => { ln with qualifiedOnhook := ln.sampledOnhook }) := by
    refine h.setLine_aside l _ ?_ rfl rfl rfl
    obtain ⟨unfitted, taken, brk, check, current, sampled, onhook, occupant, noYield, fault⟩ := h.sound l
    exact ⟨unfitted, taken, brk, check, current, sampled, fun _ => ⟨notHeld, fitted⟩, occupant, noYield, fault⟩
  have line := State.line_setLine s l fun ln => { ln with qualifiedOnhook := ln.sampledOnhook }
  unfold Machine.qualifyOnhook; dsimp only; split
  · split
    · rename_i moves
      refine qualified.enterOnhook l _ ?_ (by rw [line]; exact fitted)
      rw [line]
      cases st : (s.line l).state <;> simp_all [movesLine, LineState.taken]
    · exact qualified
  · exact qualified

theorem HeldSound.recoverLine (l : LineNo) (faulted : (s.line l).state = .faulted) : HeldSound (recoverLine l s) := by
  unfold Machine.recoverLine; split
  · exact (acts_tellTrouble _ _ _).heldSound (h.enterOnhook l _ (by rw [faulted]; rfl) (by rw [faulted]; simp))
  · exact h

theorem HeldSound.sampleOnhook (l : LineNo) (b : OnhookBand) (senses : sensesVoltage l s = true) :
    HeldSound (s.setLine l (Line.sampleOnhook s.now b)) := by
  simp only [sensesVoltage, Bool.and_eq_true, decide_eq_true_eq] at senses
  obtain ⟨⟨-, fitted⟩, notHeld⟩ := senses
  refine h.setLine_aside l _ ?_ ?_ ?_ ?_ <;> unfold Line.sampleOnhook <;> split
  · exact h.sound l
  · obtain ⟨unfitted, taken, brk, check, current, sampled, onhook, occupant, noYield, fault⟩ := h.sound l
    exact ⟨unfitted, taken, brk, check, current, sampled, fun _ => ⟨notHeld, fitted⟩, occupant, noYield, fault⟩
  all_goals rfl

theorem HeldSound.sampleCurrent (l : LineNo) (b : CurrentBand) (held : (s.line l).state = .held) :
    HeldSound (s.setLine l (Line.sampleCurrent s.now b)) := by
  refine h.setLine_aside l _ ?_ ?_ ?_ ?_ <;> unfold Line.sampleCurrent <;> split
  · exact h.sound l
  · obtain ⟨unfitted, taken, brk, check, current, -, onhook, occupant, noYield, fault⟩ := h.sound l
    exact ⟨unfitted, taken, brk, check, current, fun _ => held, onhook, occupant, noYield, fault⟩
  all_goals rfl

/-! ### The check window and the BREAK (R60 to R63, R83 to R85, R91) -/

/-- A line in its check window is the one that AC_CHECK names. -/
theorem HeldSound.check {l : LineNo} (held : (s.line l).state = .held) (window : (s.line l).checkStart.isSome = true) :
    s.call.state = .idle ∧ LinesHeld (some l) .access s ∧ ∃ t0, s.access.state = .check t0 l := by
  have taken : (s.line l).state.taken = true := by rw [held]; rfl
  obtain ⟨idle, lines, own⟩ | ⟨_, _, _, lines, own⟩ := h
  · have line := lines.eq_of_taken taken
    refine ⟨idle, line ▸ lines, ?_⟩
    obtain ⟨⟨m, st, w⟩, holds, same⟩ := Option.map_eq_some_iff.1 line
    cases same
    have is := (own _ _ _ holds).2
    rw [window] at is
    subst is
    cases access : s.access.state <;> simp [access, AccessState.holds] at holds
    case check t0 m => exact ⟨t0, by rw [holds.1]⟩
  · simp [(own l (lines.eq_of_taken taken)).2] at window

end

/-- Lines that nobody holds, while the access controller takes the result of its check window (R83 to R85). -/
theorem heldSound_checkResult {u : State} {t0 : Nat} {l : LineNo} (lines : LinesHeld none .access u) (idle : u.call.state = .idle)
    (access : u.access.state = .check t0 l) (res : CheckResult) (notClear : res ≠ .clear) :
    HeldSound (accessCheckResult res u) := by
  have waiting : HeldSound (u.setAccess (.wait 0 0 false)) := .of_free (lines.congr rfl rfl lines.pause) idle rfl
  have chosen := acts_chooseLine (u.setAccess (.wait 0 0 false)) t0 (.of_state (State.setAccess_state _ _) (by simp) rfl)
  rw [chooseLine_setAccess] at chosen
  unfold Machine.accessCheckResult
  rw [access]
  cases res
  case clear => exact absurd rfl notClear
  case collision | unsettled => exact (acts_chargeAndChoose u 0 u.now).heldSound waiting
  case noLoop => exact chosen.heldSound waiting

section
variable {s : State} (h : HeldSound s)
include h

/-- The line of a check window drops, with its tones (R60, R61). -/
theorem HeldSound.dropped {l : LineNo} (held : (s.line l).state = .held) (window : (s.line l).checkStart.isSome = true) (f : Line → Line)
    (sound : (f (s.line l)).sound) (noHolder : (f (s.line l)).holder = none) :
    LinesHeld none .access (silenceLine l (s.setLine l f)) := by
  obtain ⟨-, lines, -⟩ := h.check held window
  refine lines.silenced l f sound noHolder fun n other => ?_
  have ne : some l ≠ some n := fun eq => other (Option.some.inj eq).symm
  rw [if_neg ne]; rfl

theorem HeldSound.foundShared (l : LineNo) (held : (s.line l).state = .held) (window : (s.line l).checkStart.isSome = true)
    (res : CheckResult) (notClear : res ≠ .clear) : HeldSound (foundShared res l s) := by
  obtain ⟨idle, -, t0, access⟩ := h.check held window
  have counted := h.setLine_aside l (fun ln => { ln with collisions := saturatingSucc 65535 ln.collisions }) (h.sound l) rfl rfl rfl
  have line := State.line_setLine s l fun ln => { ln with collisions := saturatingSucc 65535 ln.collisions }
  have lines := counted.dropped (l := l) (by rw [line]; exact held) (by rw [line]; exact window)
    (fun ln => { (ln.openRelay s.now .guard none).receiverAnew s.now with noYield := false })
    (Line.sound_dropped (counted.sound l) (by rw [line]; exact held) _ _) rfl
  exact heldSound_checkResult lines idle access res notClear

theorem HeldSound.qualifyCurrent (l : LineNo) (held : (s.line l).state = .held) (sampled : (s.line l).sampledCurrent.isSome = true) :
    HeldSound (qualifyCurrent l s) := by
  let f (ln : Line) : Line := { ln with qualifiedCurrent := ln.sampledCurrent, qualifiedCurrentSince := s.now }
  have line : (s.setLine l f).line l = f (s.line l) := State.line_setLine s l f
  have qualified : HeldSound (s.setLine l f) := by
    refine h.setLine_aside l _ ?_ rfl rfl rfl
    obtain ⟨unfitted, taken, brk, check, -, isSampled, onhook, occupant, noYield, fault⟩ := h.sound l
    exact ⟨unfitted, taken, brk, check, ⟨fun _ => held, fun _ => sampled⟩, isSampled, onhook, occupant, noYield, fault⟩
  unfold Machine.qualifyCurrent; dsimp only; split
  · split
    · rename_i window
      split
      · exact qualified.foundShared l (by rw [line]; exact held) (by rw [line]; exact window) _ (by simp)
      · exact qualified
    · unfold tellCurrent; split
      · exact (acts_accessCurrentChange _ _).heldSound qualified
      · exact qualified
  · exact qualified

theorem HeldSound.checkedNoLoop (l : LineNo) (held : (s.line l).state = .held) (window : (s.line l).checkStart.isSome = true) :
    HeldSound (checkedNoLoop l s) := by
  obtain ⟨idle, -, t0, access⟩ := h.check held window
  let dropped : State := silenceLine l (s.setLine l fun ln =>
    { (ln.openRelay s.now .faulted none).receiverAnew s.now with faultCause := some .noLoop, noLoop := true })
  have lines : LinesHeld none .access dropped := h.dropped held window _ (Line.sound_noLoop (h.sound l) held _) rfl
  have idle' : dropped.call.state = .idle := idle
  have access' : dropped.access.state = .check t0 l := access
  show HeldSound (Machine.accessCheckResult CheckResult.noLoop (if (s.line l).noLoop then dropped else tellTrouble (.lineNoLoop l) true dropped))
  split
  · exact heldSound_checkResult lines idle' access' .noLoop (by simp)
  · obtain books | ⟨u, books, ended⟩ := tellTrouble_check dropped access' idle' (.lineNoLoop l) true
    · have lines' : LinesHeld none .access (tellTrouble (.lineNoLoop l) true dropped) := by
        rw [books]; exact lines.congr rfl rfl lines.pause
      exact heldSound_checkResult lines' (by rw [books]; exact idle') (by rw [books]; exact access') .noLoop (by simp)
    · have lines' : LinesHeld none .access u := by rw [books]; exact lines.congr rfl rfl lines.pause
      have unheld : (u.line l).holder ≠ some .access := by rw [lines'.holder]; simp
      have idleNow : tellTrouble (.lineNoLoop l) true dropped = u.setAccess .idle := by
        rw [ended, releaseAndIdle, releaseLine_of_not_holder unheld]
      rw [idleNow]
      exact .of_free (lines'.congr rfl rfl lines'.pause) (by rw [books]; exact idle') rfl

end

/-- The line of a check window that has ended CLEAR, still named by AC_CHECK. -/
structure Cleared (t0 : Nat) (l : LineNo) (s : State) : Prop where
  idle : s.call.state = .idle
  lines : LinesHeld (some l) .access s
  access : s.access.state = .check t0 l
  held : (s.line l).state = .held
  windowOver : (s.line l).checkStart = none

section
variable {s : State} {t0 : Nat} {l : LineNo}

/-- The access controller takes CLEAR: the line is granted or given up (R85). -/
theorem Cleared.granted (h : Cleared t0 l s) (q : Nat) (passed : List HeldReport) : HeldSound (s.setAccess (.granted t0 l q passed)) := by
  refine .acquiring h.idle (h.lines.congr rfl rfl h.lines.pause) fun m st w eq => ?_
  cases eq
  exact ⟨h.held, by rw [State.line_setAccess, h.windowOver]; rfl⟩

theorem Cleared.accessCheckResult (h : Cleared t0 l s) : HeldSound (accessCheckResult .clear s) := by
  have granted := h.granted 0 []
  have given := acts_releaseAndChoose (s.setAccess (.granted t0 l 0 [])) t0 (l := l) rfl
  have ended := acts_releaseAndIdle (s.setAccess (.granted t0 l 0 [])) (l := l) rfl
  have released : releaseLine .access .plain l (s.setAccess (.granted t0 l 0 [])) =
      (releaseLine .access .plain l s).setAccess (.granted t0 l 0 []) := by
    have holder : (s.line l).holder = some .access := by rw [h.lines.holder, if_pos rfl]
    rw [releaseLine_held holder h.held (by simp), releaseLine_held (by exact holder) (by exact h.held) (by simp)]
    rfl
  unfold Machine.accessCheckResult
  rw [h.access]
  show HeldSound (checkClear t0 l s)
  unfold checkClear; split
  · rw [releaseAndIdle, released, State.setAccess_setAccess] at ended
    exact ended.heldSound granted
  · split
    · exact h.granted _ _
    · rw [releaseAndChoose, released, chooseLine_setAccess] at given
      exact given.heldSound granted

theorem HeldSound.checkedClear (h : HeldSound s) (held : (s.line l).state = .held)
    (window : (s.line l).checkStart.isSome = true) : HeldSound (checkedClear l s) := by
  obtain ⟨idle, lines, t0, access⟩ := h.check held window
  let f (ln : Line) : Line := { ln with checkStart := none, noLoop := false }
  have line : (s.setLine l f).line l = f (s.line l) := State.line_setLine s l f
  have sound : (f (s.line l)).sound := by
    obtain ⟨unfitted, taken, brk, -, rest⟩ := h.sound l
    exact ⟨unfitted, taken, brk, nofun, rest⟩
  have cleared : Cleared t0 l (s.setLine l f) :=
    ⟨idle, lines.setLine_same l f sound id rfl, access, by rw [line]; exact held, by rw [line]⟩
  show HeldSound (Machine.accessCheckResult .clear (if (s.line l).noLoop then tellTrouble (.lineNoLoop l) false (s.setLine l f)
    else s.setLine l f))
  split
  · obtain books | ⟨u, books, ended⟩ := tellTrouble_check (s.setLine l f) cleared.access cleared.idle (.lineNoLoop l) false
    · rw [books]
      exact Cleared.accessCheckResult ⟨cleared.idle, cleared.lines.congr rfl rfl cleared.lines.pause, cleared.access, cleared.held,
        cleared.windowOver⟩
    · have lines' : LinesHeld (some l) .access u := by rw [books]; exact cleared.lines.congr rfl rfl cleared.lines.pause
      have idleNow : (releaseAndIdle l u).access.state = .idle := rfl
      have free := lines'.releaseLine (k := .plain) (by simp)
      have same : Machine.accessCheckResult .clear (releaseAndIdle l u) = releaseAndIdle l u := by
        rw [Machine.accessCheckResult, idleNow]
      have call : (releaseAndIdle l u).call = u.call := (calm_releaseAndIdle u l).call
      rw [ended, same]
      exact .of_free (free.congr rfl rfl free.pause) (by rw [call, books]; exact cleared.idle) rfl
  · exact cleared.accessCheckResult

theorem HeldSound.endCheckWindow (h : HeldSound s) (held : (s.line l).state = .held)
    (window : (s.line l).checkStart.isSome = true) : HeldSound (endCheckWindow l s) := by
  unfold Machine.endCheckWindow; split
  · exact h.checkedClear held window
  · exact h.checkedNoLoop l held window
  · exact h.foundShared l held window _ (by simp)
  · exact h.foundShared l held window _ (by simp)

/-- A line in BREAK is the one that the preemption names, in its phase BREAK (R91). -/
theorem HeldSound.break (h : HeldSound s) (brk : (s.line l).state = .break) :
    s.call.state = .idle ∧ LinesHeld (some l) .access s ∧
      ∃ t0 rec, s.access.state = .preempt t0 l rec ∧ rec.phase = .break := by
  have taken : (s.line l).state.taken = true := by rw [brk]; rfl
  obtain ⟨idle, lines, own⟩ | ⟨_, _, _, lines, own⟩ := h
  · have line := lines.eq_of_taken taken
    refine ⟨idle, line ▸ lines, ?_⟩
    obtain ⟨⟨m, st, w⟩, holds, same⟩ := Option.map_eq_some_iff.1 line
    cases same
    have is := (own _ _ _ holds).1
    rw [brk] at is
    subst is
    cases access : s.access.state <;> simp [access, AccessState.holds] at holds
    case preempt t0 m rec =>
      obtain ⟨rfl, phase, -⟩ := holds
      refine ⟨t0, rec, rfl, ?_⟩
      cases p : rec.phase <;> simp_all
  · simp [(own l (lines.eq_of_taken taken)).1] at brk

theorem HeldSound.endBreak (h : HeldSound s) (brk : (s.line l).state = .break) : HeldSound (endBreak l s) := by
  obtain ⟨idle, lines, t0, rec, access, phase⟩ := h.break brk
  have reseized : LinesHeld (some l) .access (reseizeLine l s) :=
    lines.setLine l _ (Line.sound_closeRelay (h.sound l) (.inr (.inr brk)) _ _) (fun _ => rfl) (if_pos rfl).symm fun _ _ => rfl
  have line : (reseizeLine l s).line l = (s.line l).closeRelay s.now true := State.line_setLine s l _
  have checking : Machine.endBreak l s = (reseizeLine l s).setAccess (.check t0 l) := by
    simp [Machine.endBreak, access, phase]
  rw [checking]
  refine .acquiring idle (reseized.congr rfl rfl reseized.pause) fun m st w eq => ?_
  cases eq
  rw [State.line_setAccess, line]
  exact ⟨rfl, rfl⟩

/-- Success takes the line of the preemption into BREAK (R91). -/
theorem HeldSound.succeedPreempt (h : HeldSound s) {t0 : Nat} {rec : PreemptRecord} (access : s.access.state = .preempt t0 l rec)
    (phase : rec.phase = .demanding) : HeldSound (succeedPreempt s) := by
  have idle := h.idle_of_mayAcquire (.of_state access (by simp))
  obtain ⟨lines, own⟩ := h.ofIdle idle
  rw [access] at lines
  have lines : LinesHeld (some l) .access s := lines
  have holder : (s.line l).holder = some .access := by rw [lines.holder, if_pos rfl]
  have held : (s.line l).state = .held := by
    have := (own l _ _ (by rw [access]; rfl)).1
    rw [this, if_pos phase]
  let broken : State := silenceLine l (s.setLine l fun ln => ln.openRelay s.now .break (some .access))
  have isBroken : releaseLine .access .brk l s = broken := by simp [releaseLine, holder, held, broken]
  have lines' : LinesHeld (some l) .access broken :=
    lines.silenced l _ (Line.sound_broken (h.sound l) held _) (if_pos rfl).symm fun _ _ => rfl
  have line : (broken.line l).state = .break ∧ (broken.line l).checkStart = none := by
    have eq : broken.line l = _ := line_silenceLine l _
    rw [eq, State.line_setLine]
    split <;> exact ⟨rfl, rfl⟩
  unfold Machine.succeedPreempt
  rw [access]
  dsimp only
  rw [isBroken]
  refine .acquiring idle (lines'.congr rfl rfl lines'.pause) fun m st w eq => ?_
  cases eq
  exact ⟨line.1, by rw [State.line_setAccess, line.2]; rfl⟩

end

end Sys2Proof.Machine
end

section
/-! Every step keeps the lines and the blocks that hold them in agreement: the tone output, the grant taken, the peer listener, the
starts, and every event (R59, R62, R68, R87, R97, R159). -/

namespace Sys2Proof.Machine

/-! ### The tone output (R68) -/

section
variable {s : State}

/-- The tone output changes, sounding and waiting on HELD lines as before. -/
theorem HeldSound.setTone (h : HeldSound s) (x : ToneOutput) (sounding : ∀ p, x.sounding = some p → (s.line p.1.line).state = .held)
    (waiting : ∀ r ∈ x.waiting, (s.line r.line).state = .held) : HeldSound { s with tone := x } := by
  obtain ⟨idle, held, own⟩ | ⟨engaged, goesOn, access, held, own⟩ := h
  · exact .acquiring idle ⟨held.sound, held.holder, sounding, waiting, held.pause⟩ own
  · exact .calling engaged goesOn access ⟨held.sound, held.holder, sounding, waiting, held.pause⟩ own

theorem HeldSound.waiting (h : HeldSound s) : ∀ r ∈ s.tone.waiting, (s.line r.line).state = .held := by
  obtain ⟨_, held, _⟩ | ⟨_, _, _, held, _⟩ := h <;> exact held.waiting

theorem state_setLine_aside (l m : LineNo) (f : Line → Line) (same : ∀ ln, (f ln).state = ln.state) :
    ((s.setLine l f).line m).state = (s.line m).state := by
  by_cases eq : m = l
  · subst eq; rw [State.line_setLine, same]
  · rw [State.line_setLine_ne _ _ _ _ eq]

theorem HeldSound.finishTone (h : HeldSound s) (r : ToneRequest) : HeldSound (finishTone r s) := by
  have resumed := h.setLine_aside r.line (Line.resumeReceiver s.now) (h.sound r.line) rfl rfl rfl
  unfold Machine.finishTone; dsimp only; split
  · exact resumed.setTone ⟨none, []⟩ nofun nofun
  · rename_i n rest waiting
    have started := resumed.setLine_aside n.line (fun ln => { ln with handshakeHeard := false, ackHeard := false })
      (resumed.sound n.line) rfl rfl rfl
    have held (m : ToneRequest) (mem : m ∈ s.tone.waiting) :
        (((s.setLine r.line (Line.resumeReceiver s.now)).setLine n.line fun ln =>
          { ln with handshakeHeard := false, ackHeard := false }).line m.line).state = .held := by
      rw [state_setLine_aside n.line m.line _ (by intro; rfl), state_setLine_aside r.line m.line _ (by intro; rfl)]
      exact h.waiting m mem
    refine started.setTone ⟨some (n, _), rest⟩ (fun p eq => ?_) fun m mem => held m (by simp [waiting, mem])
    cases eq
    exact held n (by simp [waiting])

theorem HeldSound.endTone (h : HeldSound s) : HeldSound (endTone s) := by
  unfold Machine.endTone; split
  · exact Acts.heldSound ((acts_accessToneDone _ _ _).trans (acts_callToneDone _ _)) (h.finishTone _)
  · exact h

/-! ### The grant taken (R97) -/

theorem Line.sound_handed {ln : Line} (h : ln.sound) (held : ln.state = .held) : ({ ln with holder := some .call } : Line).sound := by
  obtain ⟨unfitted, -, -, rest⟩ := h
  exact ⟨unfitted, by simp [held, LineState.taken], by simp [held], rest⟩

/-- The call engine holds the line granted, and the access controller none. -/
theorem HeldSound.handed (h : HeldSound s) {t0 q : Nat} {l : LineNo} {passed : List HeldReport}
    (granted : s.access.state = .granted t0 l q passed) (c : Call) (engaged : c.state ≠ .idle) (goesOn : c.state ≠ .closing)
    (line : c.line = some l) (pause : c.pause = none) : HeldSound (((handLineToCall l s).setAccess .idle).setCall fun _ => c) := by
  obtain ⟨lines, own⟩ := h.ofIdle (h.idle_of_mayAcquire (.of_state granted (by simp)))
  rw [granted] at lines own
  obtain ⟨held, window⟩ := own l .held false rfl
  have lines : LinesHeld (some l) .access s := lines
  have handed : LinesHeld (some l) .call (handLineToCall l s) := by
    refine lines.setLine l _ (Line.sound_handed (h.sound l) held) id (if_pos rfl).symm fun n other => ?_
    have ne : some l ≠ some n := fun eq => other (Option.some.inj eq).symm
    rw [if_neg ne, if_neg ne]
  refine .calling engaged goesOn rfl ?_ fun m eq => ?_
  · exact line ▸ handed.congr rfl rfl fun p eq => by simp [pause] at eq
  · cases line.symm.trans eq
    have mine : (handLineToCall l s).line l = { s.line l with holder := some .call } := State.line_setLine s l _
    show ((handLineToCall l s).line l).state = .held ∧ ((handLineToCall l s).line l).checkStart = none
    rw [mine]
    exact ⟨held, by simpa using window⟩

theorem acts_takeIntoCall : ∀ (l : List Nat) (s : State), Acts s (l.foldl (fun t q => takeIntoCall q t) s) ∧
    (l.foldl (fun t q => takeIntoCall q t) s).call = s.call
  | [], _ => ⟨.refl, rfl⟩
  | q :: l, s => by
    obtain ⟨acts, call⟩ := acts_takeIntoCall l (takeIntoCall q s)
    exact ⟨(acts_setReport s q _).trans acts, call⟩

theorem HeldSound.takeGrant (h : HeldSound s) {t0 q : Nat} {l : LineNo} {passed : List HeldReport}
    (granted : s.access.state = .granted t0 l q passed) (r : Report) (more : List HeldReport) :
    HeldSound (takeGrant l r more s) := by
  let c : Call := { freshCall with state := .dialtoneWait, dialDeadline := some (s.now + 4000) }
  let s2 := (handLineToCall l (s.setCall fun _ => c)).setAccess .idle
  let dest := s2.settings.currentDest r
  let seqs := formBatch s2 r.seq dest l
  let s3 := s2.setCall fun c => { c with line := some l, dest := dest, batch := seqs.map fun q => ⟨q, 0⟩ }
  have handed : HeldSound s3 := h.handed granted
    { c with line := some l, dest := dest, batch := seqs.map fun q => ⟨q, 0⟩ } (by simp [c]) (by simp [c]) rfl rfl
  obtain ⟨into, call⟩ := acts_takeIntoCall seqs s3
  have engaged : (decideHead (seqs.foldl (fun t q => takeIntoCall q t) s3)).call.state ≠ .idle := by
    rw [(headOnly_decideHead _).call, call]; simp [s3, s2, c, handLineToCall]
  have begun : Acts s3 (if ((decideHead (seqs.foldl (fun t q => takeIntoCall q t) s3)).line l).dialHeard
      then startDialling (decideHead (seqs.foldl (fun t q => takeIntoCall q t) s3))
      else decideHead (seqs.foldl (fun t q => takeIntoCall q t) s3)) := by
    split
    · exact (into.trans (acts_decideHead _)).trans (acts_startDialling _ engaged)
    · exact into.trans (acts_decideHead _)
  exact Acts.heldSound (begun.trans (acts_takeHeldReports more _)) handed

theorem HeldSound.takeOffered (h : HeldSound s) : HeldSound (takeOffered s) := by
  unfold Machine.takeOffered; split
  · rename_i granted
    split
    · exact h.takeGrant granted _ _
    · exact h
  · exact h

end

/-! ### The peer listener (chapter 6) -/

section
variable {s : State} (h : HeldSound s)
include h

theorem HeldSound.setListener (x : Listener) : HeldSound { s with listener := x } := h.congr rfl rfl rfl rfl
theorem HeldSound.setDecoder (l : LineNo) (f : Decoder → Decoder) : HeldSound (s.setDecoder l f) := h.congr rfl rfl rfl rfl
theorem HeldSound.setHeard (f : List HeardEntry → List HeardEntry) : HeldSound (s.setHeard f) := h.congr rfl rfl rfl rfl

theorem HeldSound.discardStream (l : LineNo) : HeldSound (discardStream l s) := by
  unfold Machine.discardStream; split
  · exact h
  · unfold raiseGarbled; split
    · exact h.setDecoder l _
    · have streamless := h.setDecoder l fun d => { d with stream := none }
      exact streamless.setLine_aside l _ (streamless.sound l) rfl rfl rfl

theorem HeldSound.setOccupant (l : LineNo) (c : ReportClass) : HeldSound (setOccupant l c s) := by
  unfold Machine.setOccupant; split
  · rename_i occupied
    split
    · exact h
    · refine (acts_accessOccupantNotice _ l).heldSound (h.setLine_aside l _ ?_ rfl rfl rfl)
      obtain ⟨unfitted, taken, brk, check, current, sampled, onhook, -, rest⟩ := h.sound l
      exact ⟨unfitted, taken, brk, check, current, sampled, onhook, fun _ => occupied, rest⟩
  · exact h

theorem HeldSound.unnameAll (key : HeardKey) : HeldSound (unnameAll key s) := by
  have fold : ∀ (l : List LineNo) (u : State), HeldSound u → HeldSound (l.foldl (fun t l => t.setDecoder l (·.unname key)) u) := by
    intro l
    induction l with
    | nil => exact fun _ hu => hu
    | cons m l ih => exact fun u hu => ih _ (hu.setDecoder m _)
  exact fold _ s h

theorem HeldSound.forgetHeard (key : HeardKey) : HeldSound (forgetHeard key s) := (h.setHeard _).unnameAll key

theorem HeldSound.enterHeard (key : HeardKey) : HeldSound (enterHeard key s) := by
  unfold Machine.enterHeard
  refine HeldSound.setHeard ?_ _
  split
  · exact h.forgetHeard _
  · split
    · exact h
    · split
      · exact h.forgetHeard _
      · exact h

theorem HeldSound.stationClash : HeldSound (stationClash s) := by
  unfold Machine.stationClash; dsimp only; split
  · exact h.setListener _
  · exact (acts_tellTrouble _ _ _).heldSound (h.setListener _)

theorem HeldSound.takeBlock (l : LineNo) (b : HeardBlock) : HeldSound (takeBlock l b s) := by
  have named := h.setOccupant l b.cls
  unfold Machine.takeBlock; dsimp only; split
  · exact named.setDecoder l _
  · split
    · exact (named.setDecoder l _).stationClash
    · split
      · exact (named.enterHeard _).setDecoder l _
      · exact named.setDecoder l _

theorem HeldSound.peerSymbolAlone (l : LineNo) (y : Sym) (d : Nat) : HeldSound (peerSymbolAlone l y d s) := by
  unfold Machine.peerSymbolAlone; split
  · exact (h.setDecoder l _).setDecoder l _
  · split
    · exact h.setDecoder l _
    · split
      · exact (h.setDecoder l _).setOccupant l _
      · exact h.setDecoder l _

theorem HeldSound.endStream (l : LineNo) (st : Stream) : HeldSound (endStream l st s) := by
  unfold Machine.endStream; split
  · exact (h.setDecoder l _).takeBlock l _
  · exact h.discardStream l

theorem HeldSound.peerSymbol (l : LineNo) (y : Sym) (d : Nat) : HeldSound (peerSymbol l y d s) := by
  have alone := (h.discardStream l).peerSymbolAlone l y d
  unfold Machine.peerSymbol; split
  · exact h.peerSymbolAlone l y d
  · split
    · exact alone
    · split
      · exact h.endStream l _
      · split
        · exact h.setDecoder l _
        · exact alone

omit h in
theorem acts_coverReport (s : State) (p q : Nat) : Acts s (coverReport p q s) := by
  unfold coverReport; split
  · split
    · exact .refl
    · exact acts_removeReport s _ _
  · exact .refl

omit h in
theorem acts_coverReports (p : Nat) : ∀ (l : List Report) (s : State), Acts s (l.foldl (fun t r => coverReport p r.seq t) s)
  | [], _ => .refl
  | r :: l, s => (acts_coverReport s p r.seq).trans (acts_coverReports p l _)

omit h in
theorem acts_contradict (s : State) (e : HeardEntry) : Acts s (contradict e s) := by
  unfold contradict; split
  · split
    · exact .refl
    · split
      · exact .refl
      · exact (acts_setChan s _ _).trans (acts_handReport _ _)
  · exact .refl

omit h in
theorem acts_actOnAcknowledged (s : State) (e : HeardEntry) : Acts s (actOnAcknowledged e s) := by
  unfold actOnAcknowledged; split
  · exact (acts_coverReports _ _ s).trans (acts_contradict _ _)
  · exact .refl

theorem HeldSound.peerAck (l : LineNo) : HeldSound (peerAck l s) := by
  unfold Machine.peerAck; split
  · exact h
  · split
    · dsimp only; split
      · rename_i key _
        have counted := ((h.setDecoder l fun d => { d with awaiting := none }).setHeard fun es =>
            es.map fun e => if e.key = key then e.acked (s.listener.ackCount + 1) else e).setListener
          { ((s.setDecoder l fun d => { d with awaiting := none }).setHeard fun es =>
              es.map fun e => if e.key = key then e.acked (s.listener.ackCount + 1) else e).listener with
            ackCount := s.listener.ackCount + 1 }
        unfold acknowledgeHeard; dsimp only; split
        · exact (acts_actOnAcknowledged _ _).heldSound counted
        · exact counted
      · exact h.setDecoder l _
    · exact h

/-! ### Reports of the receivers and of a held line (R64 to R67) -/

theorem HeldSound.noteHeard (l : LineNo) (f : Line → Line) (sound : (s.line l).sound → (f (s.line l)).sound)
    (holder : (f (s.line l)).holder = (s.line l).holder) (state : (f (s.line l)).state = (s.line l).state)
    (check : (f (s.line l)).checkStart = (s.line l).checkStart) : HeldSound (noteHeard l f s) :=
  h.setLine_aside l _ (sound (h.sound l)) holder state check

theorem HeldSound.routeTone (l : LineNo) (call peer : State → State) (hc : Acts s (call s)) (hp : HeldSound (peer s)) :
    HeldSound (routeTone l call peer s) := by
  obtain e | e | e := routeTone_cases l call peer s <;> rw [e]
  · exact hc.heldSound h
  · exact h
  · exact hp

omit h in
theorem acts_tellHolder (s : State) (l : LineNo) (access call : State → State) (ha : Acts s (access s)) (hc : Acts s (call s)) :
    Acts s (tellHolder l access call s) := by
  unfold tellHolder; split
  · exact ha
  · split
    · exact hc
    · exact .refl
  · exact .refl

end

/-! ### A start (R159) -/

section
variable {s : State}

/-- In a state just started no line is held. -/
theorem HeldSound.of_fresh (lines : ∀ l, ∃ b, s.line l = freshLine b) (tone : s.tone = freshTone) (access : s.access = freshAccess)
    (call : s.call = freshCall) : HeldSound s := by
  have unheld (l : LineNo) : (s.line l).holder = none := by obtain ⟨b, e⟩ := lines l; rw [e]; rfl
  refine .of_free (b := .access) ⟨fun l => ?_, fun l => ?_, ?_, ?_, ?_⟩ (by rw [call]; rfl) (by rw [access]; rfl)
  · obtain ⟨b, e⟩ := lines l; rw [e]; exact sound_freshLine b
  · rw [unheld]; simp
  · rw [tone]; nofun
  · rw [tone]; nofun
  · rw [call]; nofun

theorem heldSound_beginStart (cause : StartCause) (s : State) : HeldSound (beginStart cause s) :=
  .of_fresh (fun l => ⟨false, by simp [beginStart, State.line]⟩) rfl rfl rfl

theorem HeldSound.tryRead (h : HeldSound s) : HeldSound (tryRead s) := by
  unfold Machine.tryRead; split
  · exact h.congr rfl rfl rfl rfl
  · exact h

theorem heldSound_endRead (bytes : Option (List Byte)) (s : State) : HeldSound (endRead bytes s) := by
  have fresh : HeldSound (afterRead (loadImage bytes).1 (loadImage bytes).2.1 s) :=
    .of_fresh (fun l => ⟨_, afterRead_line _ _ s l⟩) rfl rfl rfl
  have started := (acts_handReport _ (startReport s.startCause)).heldSound fresh
  unfold endRead; dsimp only; split
  · exact (acts_tellTrouble _ _ _).heldSound started
  · exact started

theorem HeldSound.endAnswer (h : HeldSound s) : HeldSound (endAnswer s) := by
  unfold Machine.endAnswer; split
  · exact h
  · split
    · exact (heldSound_beginStart _ s).tryRead
    · exact Acts.heldSound (((acts_setPort s _).trans (acts_takeWaiting _ _)).trans (acts_setPort _ _)) h

/-! ### Every event -/

/-- An event keeps what its effect keeps when it is due. -/
theorem HeldSound.whenDue {b : Bool} {f : State → State} {t : State} (h : HeldSound s) (taken : whenDue b f s = .next t)
    (effect : b = true → HeldSound (f s)) : HeldSound t := by
  obtain ⟨due, e⟩ | ⟨_, e⟩ := whenDue_cases s b f <;> cases e.symm.trans taken
  · exact effect due
  · exact h

theorem HeldSound.startEvent (h : HeldSound s) {i : Instr} {t : State} (start : startEvent i = true) (taken : exec i s = .next t) :
    HeldSound t := by
  cases i <;> cases start <;> unfold exec at taken
  case powerUp | supplyFailure => cases taken; exact (heldSound_beginStart .powerUp s).congr rfl rfl rfl rfl
  case powerStable => exact h.whenDue taken fun _ => HeldSound.tryRead (h.congr rfl rfl rfl rfl)
  case startPinLow => exact h.whenDue taken fun _ => (heldSound_beginStart .startPin s).congr rfl rfl rfl rfl
  case startPinRelease =>
    have released : HeldSound { s with pinLow := false } := h.congr rfl rfl rfl rfl
    refine h.whenDue taken fun _ => ?_
    split
    · exact released.tryRead
    · exact released
  case imageReadEnd | imageReadTimeout => exact h.whenDue taken fun _ => heldSound_endRead _ s
  case answerEnd => exact h.whenDue taken fun _ => h.endAnswer

theorem sensesCurrent_held {l : LineNo} (senses : sensesCurrent l s = true) : (s.line l).state = .held := by
  simp only [sensesCurrent, Bool.and_eq_true, decide_eq_true_eq] at senses
  exact senses.2

/-- What falls due while a yield demand is made. -/
theorem demandingDue_preempt {at_ : PreemptRecord → Option Nat} (due : demandingDue at_ s = true) :
    ∃ t0 l rec, s.access.state = .preempt t0 l rec ∧ rec.phase = .demanding := by
  unfold demandingDue demandingRecord at due
  cases access : s.access.state <;> simp only [access, reduceCtorEq] at due
  case preempt t0 l rec =>
    by_cases phase : (s.running && rec.phase = .demanding) = true
    · simp only [Bool.and_eq_true, decide_eq_true_eq] at phase
      exact ⟨t0, l, rec, rfl, phase.2⟩
    · simp [phase] at due

/-- A timed stay is one in its own state. -/
theorem periodDue_state {st : LineState} {time : Nat} {l : LineNo} (due : periodDue st time l s = true) : (s.line l).state = st := by
  simp only [periodDue, Bool.and_eq_true, decide_eq_true_eq] at due
  exact due.1.1.2

theorem HeldSound.otherEvent (h : HeldSound s) {i : Instr} {t : State} (start : Machine.startEvent i = false) (channel : channelEvent i = none)
    (port : portEvent i = false) (taken : exec i s = .next t) : HeldSound t := by
  cases i <;> cases start <;> cases channel <;> cases port <;> unfold exec at taken <;>
    refine h.whenDue taken fun due => ?_
  case eligibleAtReached => exact (acts_decideHead s).heldSound h
  case restEnd => exact Acts.heldSound ((acts_setReport s _ _).trans (acts_decideHead _)) h
  case testTimerExpiry => exact (acts_expireTestTimer s).heldSound h
  case holdoffDeadline => exact (acts_seizeChosen s).heldSound h
  case preemptWaitExpiry => exact (acts_expirePreemptWait s).heldSound h
  case yieldDemandRepeat => exact (acts_repeatDemand s).heldSound h
  case yieldDemandGapEnd => exact (acts_sendClassDigit s).heldSound h
  case preemptSuccess =>
    obtain ⟨t0, l, rec, access, phase⟩ := demandingDue_preempt due
    exact h.succeedPreempt access phase
  case preemptResponseEnd => exact (acts_failPreempt s).heldSound h
  case lineVoltageSample => exact h.sampleOnhook _ _ due
  case loopCurrentSample => exact h.sampleCurrent _ _ (sensesCurrent_held due)
  case lineOnhookBandQualified =>
    simp only [onhookDue, Bool.and_eq_true] at due
    exact h.qualifyOnhook _ due.1.1.1
  case settlingEnd | guardEnd => exact h.endPeriod _ (by rw [periodDue_state due]; rfl) (by rw [periodDue_state due]; simp)
  case noLoopFaultEnd =>
    have period := (Bool.and_eq_true _ _ ▸ due).1
    exact h.endPeriod _ (by rw [periodDue_state period]; rfl) (by rw [periodDue_state period]; simp)
  case deadRunLimit =>
    simp only [deadRunDue, Bool.and_eq_true, Bool.or_eq_true, decide_eq_true_eq] at due
    exact h.deadFault _ (due.2.imp_right And.left)
  case deadFaultRecovery =>
    simp only [recoveryDue, Bool.and_eq_true, decide_eq_true_eq] at due
    exact h.recoverLine _ due.1.1.1.2
  case currentBandQualified =>
    simp only [currentDue, Bool.and_eq_true] at due
    exact h.qualifyCurrent _ (sensesCurrent_held due.1.1.1) due.1.1.2
  case checkWindowEnd l =>
    simp only [checkWindowDue, Bool.and_eq_true] at due
    refine h.endCheckWindow (sensesCurrent_held due.1) ?_
    cases window : (s.line l).checkStart <;> simp_all [reached]
  case breakEnd =>
    simp only [breakDue, Bool.and_eq_true, decide_eq_true_eq] at due
    exact h.endBreak due.1.2
  case intrusion l =>
    exact (acts_tellHolder _ l _ _ (acts_passWithGrant _ _) (acts_pauseCall _)).heldSound
      (h.setLine_aside l (fun ln => { ln with sharedFromSole := false }) (h.sound l) rfl rfl rfl)
  case loopLoss l =>
    exact (acts_tellHolder _ l _ _ (acts_accessLoopLoss _) (acts_callLoopLoss _)).heldSound
      (h.setLine_aside l (fun ln => { ln with lossGiven := true }) (h.sound l) rfl rfl rfl)
  case symbolReport l _ _ =>
    split
    · have noted := h.noteHeard l id id rfl rfl rfl
      exact noted.routeTone l _ _ (acts_callSymbol _ _ _) (noted.peerSymbol l _ _)
    · exact h
  case dialRecognised l _ =>
    have noted := h.noteHeard l (fun ln => { ln with dialHeard := true }) id rfl rfl rfl
    exact noted.routeTone l _ _ (acts_callDial _) (noted.discardStream l)
  case dialEnd l _ => exact h.noteHeard l (fun ln => { ln with dialHeard := false }) id rfl rfl rfl
  case busyReport l _ _ =>
    have noted := h.noteHeard l id id rfl rfl rfl
    exact noted.routeTone l _ _ (acts_callBusy _) (noted.discardStream l)
  case handshakeRecognised l _ =>
    have noted := h.noteHeard l (fun ln => { ln with handshakeHeard := true }) id rfl rfl rfl
    exact noted.routeTone l _ _ (acts_callHandshake _) (noted.discardStream l)
  case handshakeEnd l _ =>
    have noted := h.noteHeard l (fun ln => { ln with handshakeHeard := false }) id rfl rfl rfl
    exact noted.routeTone l _ _ (acts_callHandshakeEnd _) noted
  case ackRecognised l _ =>
    have noted := h.noteHeard l (fun ln => { ln with ackHeard := true }) id rfl rfl rfl
    exact noted.routeTone l _ _ (acts_callAck _) ((noted.discardStream l).peerAck l)
  case ackEnd l _ =>
    have noted := h.noteHeard l (fun ln => { ln with ackHeard := false }) id rfl rfl rfl
    exact noted.routeTone l _ _ (acts_callAckEnd _) noted
  case silenceReport l =>
    have noted := h.setLine_aside l (fun ln => { ln with toSilence := false }) (h.sound l) rfl rfl rfl
    exact noted.routeTone l _ _ .refl (noted.discardStream l)
  case toneRequestDone => exact h.endTone
  case takeGrant => exact h.takeOffered
  case dialDeadline | handshakeDeadline => exact (acts_endCall s _).heldSound h
  case dialGapEnd => exact (acts_endDialGap s (engaged_of_gap s due (by simp))).heldSound h
  case leadInDue => exact (acts_beginBlock s (engaged_of_leadIn s due)).heldSound h
  case blockSymbolGapEnd => exact (acts_sendSymbol s (engaged_of_gap s due (by simp))).heldSound h
  case ackDeadline => exact (acts_expireAck s (engaged_of_deadline s due (by simp))).heldSound h
  case pauseEnd => exact (acts_endPause s (engaged_of_gap s due (by simp))).heldSound h
  case clashEnd => exact (acts_tellTrouble _ _ _).heldSound (h.setListener _)
  case awaitingAckDeadline => exact h.setDecoder _ _
  case heardEntryExpiry => exact h.forgetHeard _

theorem HeldSound.exec (h : HeldSound s) {i : Instr} {t : State} (taken : exec i s = .next t) : HeldSound t := by
  cases start : Machine.startEvent i with
  | true => exact h.startEvent start taken
  | false =>
    cases channel : channelEvent i with
    | some c => exact (acts_of_channelActs (channelActs_exec s channel taken)).heldSound h
    | none =>
      cases port : portEvent i with
      | true => exact (acts_portEvent s port taken).heldSound h
      | false => exact h.otherEvent start channel port taken

theorem HeldSound.step (h : HeldSound s) {t : State} (taken : step s = .next t) : HeldSound t := by
  unfold Machine.step at taken; split at taken
  · rename_i i rest _
    exact HeldSound.exec (s := { s with pending := rest }) (h.congr rfl rfl rfl rfl) taken
  · split at taken
    · exact HeldSound.exec (s := countChoice s) (h.congr rfl rfl rfl rfl) taken
    · cases taken; exact h.congr rfl rfl rfl rfl

end

/-! ### The agreement and the statement's own words -/

section
variable {s : State}

/-- Sound lines, holders and call agree. -/
theorem heldSound_of_sound (lines : s.linesSound) (holders : s.holdersSound) (call : s.callSound) : HeldSound s := by
  obtain ⟨sound, -, sounding, waiting⟩ := lines
  obtain ⟨byAccess, own, byCall, ofCall⟩ := holders
  obtain ⟨-, -, -, inCall, pause, -⟩ := call
  have holderIs (b : Holder) (o : Option LineNo) (mine : ∀ m, (s.line m).holder = some b ↔ o = some m)
      (other : ∀ m, (s.line m).holder = none ∨ (s.line m).holder = some b) (m : LineNo) :
      (s.line m).holder = if o = some m then some b else none := by
    split
    · rename_i eq; exact (mine m).2 eq
    · rename_i ne; exact (other m).resolve_right fun eq => ne ((mine m).1 eq)
  have cases (m : LineNo) : (s.line m).holder = none ∨ (s.line m).holder = some .access ∨ (s.line m).holder = some .call := by
    cases (s.line m).holder with
    | none => exact .inl rfl
    | some b => cases b <;> simp
  have accessLine (m : LineNo) : (s.line m).holder = some .access ↔ s.access.state.heldLine = some m := by
    rw [byAccess]
    simp only [AccessState.heldLine, Option.map_eq_some_iff]
    exact ⟨fun ⟨st, w, eq⟩ => ⟨_, eq, rfl⟩, fun ⟨⟨l, st, w⟩, eq, same⟩ => ⟨st, w, same ▸ eq⟩⟩
  by_cases idle : s.call.state = .idle
  · have notCall (m : LineNo) : (s.line m).holder ≠ some .call := fun eq => ((byCall m).1 eq).2 idle
    exact .acquiring idle ⟨sound, holderIs .access _ accessLine fun m => (cases m).imp_right fun c => c.resolve_right (notCall m),
      sounding, waiting, pause⟩ own
  · obtain ⟨line, -, access⟩ := inCall idle
    obtain ⟨l, line⟩ := Option.isSome_iff_exists.1 line
    have mine : (s.line l).holder = some .call := (byCall l).2 ⟨line, idle⟩
    have notAccess (m : LineNo) : (s.line m).holder ≠ some .access := fun eq => by
      have := (accessLine m).1 eq
      simp [access, AccessState.heldLine, AccessState.holds] at this
    refine .calling idle (ofCall l mine).1 access ⟨sound, holderIs .call _ (fun m => ?_) fun m => ?_, sounding, waiting, pause⟩
      fun m eq => (ofCall m ((byCall m).2 ⟨eq, idle⟩)).2
    · rw [byCall]; exact and_iff_left idle
    · exact (cases m).imp_right fun c => c.resolve_left (notAccess m)

theorem LinesHeld.linesSound {o : Option LineNo} {b : Holder} (h : LinesHeld o b s) : s.linesSound :=
  ⟨h.sound, fun _ _ hl hm => Option.some.inj ((h.eq_of_taken hl).symm.trans (h.eq_of_taken hm)), h.sounding, h.waiting⟩

theorem HeldSound.linesSound (h : HeldSound s) : s.linesSound := by
  obtain ⟨_, held, _⟩ | ⟨_, _, _, held, _⟩ := h <;> exact held.linesSound

theorem LinesHeld.holder_iff {o : Option LineNo} {b c : Holder} (h : LinesHeld o b s) (l : LineNo) :
    (s.line l).holder = some c ↔ o = some l ∧ b = c := by
  rw [h.holder]; split <;> simp_all

theorem HeldSound.holdersSound (h : HeldSound s) : s.holdersSound := by
  obtain ⟨idle, held, own⟩ | ⟨engaged, goesOn, access, held, own⟩ := h
  · refine ⟨fun l => ?_, own, fun l => ?_, fun l eq => ?_⟩
    · rw [held.holder_iff]
      simp only [AccessState.heldLine, Option.map_eq_some_iff, and_true]
      exact ⟨fun ⟨⟨l, st, w⟩, eq, same⟩ => ⟨st, w, same ▸ eq⟩, fun ⟨st, w, eq⟩ => ⟨_, eq, rfl⟩⟩
    · simp [held.holder_iff, idle]
    · simp [held.holder_iff] at eq
  · refine ⟨fun l => ?_, fun l st w eq => ?_, fun l => ?_, fun l eq => ?_⟩
    · simp [held.holder_iff, access, AccessState.holds]
    · simp [access, AccessState.holds] at eq
    · simp [held.holder_iff, engaged]
    · exact ⟨goesOn, own l ((held.holder_iff l).1 eq).1⟩

end

end Sys2Proof.Machine

namespace Sys2Proof.Proofs
open Sys2Proof Sys2Proof.Machine

/-- Settles O58: the records of the lines, the tone output, the access state and the call agree (`HeldSound`), every act of the access
controller and the call engine keeps that, and every event is a chain of acts, a change of one line's own record, or a fresh start. -/
theorem stepsKeepLines : Obligations.Steps_keep_lines := by
  intro s t lines holders call taken
  have kept := (heldSound_of_sound lines holders call).step taken
  exact ⟨kept.linesSound, kept.holdersSound⟩

end Sys2Proof.Proofs
end

section
/-! Which line is chosen for the head, and what its seize makes of the line's record (R59, R74 to R77, R79, R82). -/

namespace Sys2Proof.Machine

section
variable {s : State}

/-- A stream discarded on a fitted line counts as one garbled (R69, R125). -/
theorem line_discardStream_fitted {l : LineNo} (fitted : (s.line l).state ≠ .unfitted) :
    (discardStream l s).line l =
      { s.line l with
        garbled := if (s.decoder l).stream.isSome then min ((s.line l).garbled + 1) 65535 else (s.line l).garbled } := by
  unfold discardStream
  cases stream : (s.decoder l).stream with
  | none => rfl
  | some st =>
    have state : ((s.setDecoder l fun d => { d with stream := none }).line l).state ≠ .unfitted := fitted
    dsimp only
    rw [raiseGarbled, if_neg state, State.line_setLine]
    rfl

/-- An accepted seize, in the statements' words. -/
theorem seizedLine_seizeLine (check : Bool) {l : LineNo} (fitted : (s.line l).state ≠ .unfitted) :
    SeizedLine check l s (seizeLine check l s) := by
  refine ⟨?_, ?_, fun m other => ⟨line_seizeLine_ne s check other, ?_⟩⟩
  · rw [seizeLine, State.line_setLine, line_discardStream_fitted fitted]
    rfl
  · rw [decoder_seizeLine, if_pos rfl]
  · rw [decoder_seizeLine, if_neg other]

theorem otherTaken_eq_false_iff {l : LineNo} : otherTaken l s = false ↔ OthersFree s l := by
  simp [otherTaken, OthersFree, allLines, LineState.taken]

theorem idleSeizeAccepted_iff {l : LineNo} : idleSeizeAccepted l s = true ↔ (s.line l).state = .idle ∧ OthersFree s l := by
  simp [idleSeizeAccepted, otherTaken_eq_false_iff]

/-- An accepted idle seize: the check of the line begins and the cursor moves on (R75, R82). -/
theorem takeIdle_seized (t0 : Nat) {l : LineNo} (idle : (s.line l).state = .idle) :
    (takeIdle t0 l s).access = ⟨.check t0 l, l + 1⟩ ∧ SeizedLine true l s (takeIdle t0 l s) ∧ OnlyAccess s (takeIdle t0 l s) ∧
      (takeIdle t0 l s).tone = s.tone :=
  ⟨rfl, seizedLine_seizeLine true (by simp [idle]), (calm_takeIdle s t0 l).onlyAccess, tone_seizeLine true l s⟩

/-! ### The choice -/

/-- The first of the rotation that a test names (R74). -/
theorem find?_rotation {p : LineNo → Bool} {cursor : LineNo} (i : Fin 4) (first : p (cursor + i) = true)
    (earlier : ∀ j : Fin 4, j < i → p (cursor + j) = false) : (rotation cursor).find? p = some (cursor + i) := by
  have at0 : 0 < i → p cursor = false := fun lt => by simpa using earlier 0 lt
  fin_cases i <;> simp_all [rotation]

variable {r : Report} (head : s.headReport = some r) (t0 : Nat)
include head

theorem awaitLine_of_none (none : firstIdle s r.matter.cls = none) : awaitLine t0 s = s.setAccess (.wait t0 s.now false) := by
  simp [awaitLine, head, none]

theorem chooseLine_of_none (none : firstIdle s r.matter.cls = none) : chooseLine t0 s = s.setAccess (.wait t0 s.now false) := by
  rw [chooseLine, awaitLine_of_none head t0 none]; rfl

theorem awaitLine_of_some {l : LineNo} (first : firstIdle s r.matter.cls = some l) :
    awaitLine t0 s = s.setAccess (.holdoff t0 l (holdoffTime s r) (deadlineBase t0 l s) (deadlineBase t0 l s + holdoffTime s r)) := by
  simp [awaitLine, head, first]

/-- The line chosen is seized at once or awaited (R74, R79, R82). -/
theorem chooseLine_of_some {l : LineNo} (first : firstIdle s r.matter.cls = some l) :
    chooseLine t0 s =
      if deadlineBase t0 l s + holdoffTime s r ≤ s.now ∧ idleSeizeAccepted l s then takeIdle t0 l (awaitLine t0 s)
      else awaitLine t0 s := by
  rw [chooseLine, awaitLine_of_some head t0 first]; rfl

end

/-- The idle seize at the deadline, or a choice anew where it is refused (R79, R82). -/
theorem exec_holdoffDeadline_chosen {s : State} {t0 h base deadline : Nat} {l : LineNo} (running : s.running = true)
    (access : s.access.state = .holdoff t0 l h base deadline) (due : deadline ≤ s.now) :
    exec .holdoffDeadline s = .next (if idleSeizeAccepted l s then takeIdle t0 l s else chooseLine t0 s) := by
  rw [exec_holdoffDeadline running access due, seizeIfDue, access]
  dsimp only
  rw [if_pos due, seizeChosen, access]

end Sys2Proof.Machine

namespace Sys2Proof.Proofs
open Sys2Proof Sys2Proof.Machine

/-- Settles O25, by what the rotation finds (`find?_rotation`) and what an accepted idle seize makes of a state (`takeIdle_seized`). -/
theorem lineChosenAndSeized : Obligations.Line_chosen_and_seized := by
  refine ⟨fun t0 s r head => ?_, fun s t0 h base deadline l running access due => ?_⟩
  · have free_iff (l : LineNo) : (s.permits r.matter.cls l && decide ((s.line l).state = .idle)) = true ↔
        Permitted s r.matter.cls l ∧ (s.line l).state = .idle := by simp [permits_iff]
    refine ⟨fun noFree => ?_, fun i free earlier => ?_⟩
    · have none : firstIdle s r.matter.cls = none := by
        rw [← Option.not_isSome_iff_eq_none, isSome_firstIdle]
        exact fun ⟨l, free⟩ => noFree l free
      exact ⟨awaitLine_of_none head t0 none, chooseLine_of_none head t0 none⟩
    · have first : firstIdle s r.matter.cls = some (s.access.cursor + i) :=
        find?_rotation i ((free_iff _).2 free) fun j lt => by
          rw [← Bool.not_eq_true, free_iff]; exact earlier j lt
      have awaited := awaitLine_of_some head t0 first
      have chosen := chooseLine_of_some head t0 first
      refine ⟨awaited, fun refused => ?_, fun due others => ?_⟩
      · rw [chosen, if_neg, awaited]
        · rfl
        · rw [idleSeizeAccepted_iff]
          rintro ⟨due, -, others⟩
          exact refused.elim (fun early => absurd due (by exact Nat.not_le.2 early)) fun taken => taken others
      · rw [chosen, if_pos ⟨due, idleSeizeAccepted_iff.2 ⟨free.2, others⟩⟩, awaited]
        exact takeIdle_seized (s := s.setAccess _) t0 free.2
  · rw [exec_holdoffDeadline_chosen running access due]
    refine ⟨fun idle others => ?_, fun refused => ?_⟩
    · rw [if_pos (idleSeizeAccepted_iff.2 ⟨idle, others⟩)]
      exact ⟨_, rfl, takeIdle_seized t0 idle⟩
    · rw [if_neg]
      rw [idleSeizeAccepted_iff]
      exact fun accepted => refused.elim (fun busy => busy accepted.1) fun taken => taken accepted.2

end Sys2Proof.Proofs
end

section
/-! Releases, breaks and the two ends of a preemption (R62, R63, R67, R68, R91, R92). -/

namespace Sys2Proof.Machine

/-! ### What a release makes of the line (R62, R67, R68) -/

section
variable {s : State} {l : LineNo}

/-- A silenced line has no tone sounding and none waiting (R68). -/
theorem sounding_silenceLine (s : State) (l : LineNo) : ∀ p, (silenceLine l s).tone.sounding = some p → p.1.line ≠ l := by
  intro p sounding
  simp only [silenceLine] at sounding
  split at sounding
  · split at sounding
    · cases sounding
    · rename_i other; cases sounding; exact other
  · cases sounding

theorem waiting_silenceLine (s : State) (l : LineNo) : ∀ r ∈ (silenceLine l s).tone.waiting, r.line ≠ l := by
  intro r mem
  simp only [silenceLine, List.mem_filter, decide_eq_true_eq] at mem
  exact mem.2

/-- A release into BREAK of a HELD line by its holder (R62). -/
theorem releaseLine_brk {b : Holder} (holder : (s.line l).holder = some b) (held : (s.line l).state = .held) :
    releaseLine b .brk l s = silenceLine l (s.setLine l fun ln => ln.openRelay s.now .break (some .access)) := by
  simp [releaseLine, holder, held]

/-- The record of a line released into BREAK: the receiver resumes if an own tone has sounded. -/
theorem line_releaseLine_brk {b : Holder} (holder : (s.line l).holder = some b) (held : (s.line l).state = .held) :
    (releaseLine b .brk l s).line l =
      (if toneSounds l s then Line.resumeReceiver s.now else id) ((s.line l).openRelay s.now .break (some .access)) := by
  rw [releaseLine_brk holder held, line_silenceLine, State.line_setLine]
  rfl

/-- The record of a HELD line dropped into GUARD. -/
theorem line_dropToGuard (n : Bool) : (dropToGuard n l s).line l =
    (if toneSounds l s then Line.resumeReceiver s.now else id)
      { ((s.line l).openRelay s.now .guard none).receiverAnew s.now with noYield := n } := by
  rw [dropToGuard, line_silenceLine, State.line_setLine]
  rfl

/-! ### What a line that is released still hears (R67; log entry 9) -/

/-- A receiver that hears is not under the part's own tone. -/
theorem Hears.silent {time : Nat} (h : Hears l time s) : toneSounds l s = false := by
  obtain ⟨-, -, -, silent⟩ := h
  unfold toneSounds
  cases sounding : s.tone.sounding with
  | none => rfl
  | some p =>
    have ends := silent p sounding
    simp only [Bool.and_eq_false_iff, decide_eq_false_iff_not]
    by_cases eq : p.1.line = l
    · exact .inr (by have := ends eq; omega)
    · exact .inl eq

/-- A receiver that has not changed at this instant already ends as it stands. -/
theorem Line.endingReceiver_of_past {ln : Line} {now : Nat} (past : ∀ f, ln.formerReceiver = some f → f.ended < now) :
    ln.endingReceiver now = ⟨ln.receiverSince, now⟩ := by
  unfold Line.endingReceiver
  cases former : ln.formerReceiver with
  | none => rfl
  | some f => exact if_neg (past f former).ne

/-- A sound heard to this instant is heard of a receiver that goes on. -/
theorem Hears.goesOn {t : State} {time : Nat} (h : Hears l time s) (running : t.running = s.running) (now : t.now = s.now)
    (fitted : (t.line l).state ≠ .unfitted) (since : (t.line l).receiverSince = (s.line l).receiverSince)
    (former : (t.line l).formerReceiver = (s.line l).formerReceiver)
    (tone : ∀ p, t.tone.sounding = some p → p.1.line = l → s.tone.sounding = some p) : Hears l time t := by
  obtain ⟨running', -, classified, silent⟩ := h
  refine ⟨running.trans running', fitted, ?_, fun p sounding here => ?_⟩
  · rw [since, former, now]; exact classified
  · rw [now]; exact silent p (tone p sounding here) here

/-- A sound heard to this instant is heard of a receiver that begins anew now. -/
theorem Hears.anew {t : State} {time : Nat} (h : Hears l time s) (past : ∀ f, (s.line l).formerReceiver = some f → f.ended < s.now)
    (running : t.running = s.running) (now : t.now = s.now) (fitted : (t.line l).state ≠ .unfitted)
    (former : (t.line l).formerReceiver = some ((s.line l).endingReceiver s.now))
    (tone : ∀ p, t.tone.sounding = some p → p.1.line = l → s.tone.sounding = some p) : Hears l time t := by
  obtain ⟨running', -, classified, silent⟩ := h
  have since : (s.line l).receiverSince + time ≤ s.now :=
    classified.resolve_right fun ⟨f, is, ended, _⟩ => absurd ended (past f is).ne
  refine ⟨running.trans running', fitted, .inr ⟨_, former, ?_, ?_⟩, fun p sounding here => ?_⟩
  · rw [Line.endingReceiver_of_past past, now]
  · rw [Line.endingReceiver_of_past past, now]; exact since
  · rw [now]; exact silent p (tone p sounding here) here

/-! ### The release requests, case by case -/

/-- A line's own record after a release has had an effect, and what it still hears. -/
structure Released (kind : ReleaseKind) (l : LineNo) (s t : State) : Prop where
  state : (t.line l).state = if kind = .brk then .break else .guard
  enteredAt : (t.line l).enteredAt = s.now
  holder : (t.line l).holder = if kind = .brk then some .access else none
  receiver : kind ≠ .brk → (t.line l).noYield = decide (kind = .noYield) ∧ (t.line l).receiverSince = s.now
    ∧ (t.line l).dialHeard = false ∧ (t.line l).handshakeHeard = false ∧ (t.line l).ackHeard = false
    ∧ (t.line l).toSilence = false
  hears : (∀ f, (s.line l).formerReceiver = some f → f.ended < s.now) → ∀ time, Hears l time s → Hears l time t
  silenced : (s.line l).state = .held → (t.line l).checkStart = none ∧ (t.line l).qualifiedCurrent = none
    ∧ (t.line l).qualifiedOnhook = none ∧ (t.line l).deadRunStart = none
    ∧ (∀ p, t.tone.sounding = some p → p.1.line ≠ l) ∧ (∀ r ∈ t.tone.waiting, r.line ≠ l)

theorem released_dropToGuard {kind : ReleaseKind} (into : kind ≠ .brk) :
    Released kind l s (dropToGuard (kind = .noYield) l s) := by
  have line := line_dropToGuard (s := s) (l := l) (kind = .noYield)
  have silent := sounding_silenceLine
    (s.setLine l fun ln => { (ln.openRelay s.now .guard none).receiverAnew s.now with noYield := kind = .noYield }) l
  refine ⟨?_, ?_, ?_, fun _ => ?_, fun past time heard => ?_, fun _ => ?_⟩
  · rw [line, if_neg into]; split <;> rfl
  · rw [line]; split <;> rfl
  · rw [line, if_neg into]; split <;> rfl
  · rw [line]; split <;> exact ⟨rfl, rfl, rfl, rfl, rfl, rfl⟩
  · rw [heard.silent] at line
    exact heard.anew past rfl rfl (by rw [line]; nofun) (by rw [line]; rfl) fun p sounding here => absurd here (silent p sounding)
  · refine ⟨?_, ?_, ?_, ?_, silent, waiting_silenceLine _ l⟩ <;> rw [line] <;> split <;> rfl

theorem released_brk {b : Holder} (holder : (s.line l).holder = some b) (held : (s.line l).state = .held) :
    Released .brk l s (releaseLine b .brk l s) := by
  have line := line_releaseLine_brk holder held
  have silent : ∀ p, (releaseLine b .brk l s).tone.sounding = some p → p.1.line ≠ l := by
    rw [releaseLine_brk holder held]; exact sounding_silenceLine _ l
  have waiting : ∀ r ∈ (releaseLine b .brk l s).tone.waiting, r.line ≠ l := by
    rw [releaseLine_brk holder held]; exact waiting_silenceLine _ l
  have calm := calm_releaseLine s b .brk l
  refine ⟨?_, ?_, ?_, fun no => absurd rfl no, fun past time heard => ?_, fun _ => ?_⟩
  · rw [line]; split <;> rfl
  · rw [line]; split <;> rfl
  · rw [line]; split <;> rfl
  · rw [heard.silent] at line
    exact heard.goesOn calm.kept.running calm.kept.now (by rw [line]; nofun) (by rw [line]; rfl) (by rw [line]; rfl)
      fun p sounding here => absurd here (silent p sounding)
  · refine ⟨?_, ?_, ?_, ?_, silent, waiting⟩ <;> rw [line] <;> split <;> rfl

theorem released_break {b : Holder} {kind : ReleaseKind} (holder : (s.line l).holder = some b) (brk : (s.line l).state = .break)
    (into : kind ≠ .brk) : Released kind l s (releaseLine b kind l s) := by
  rw [releaseLine_break holder brk into]
  have line := State.line_setLine s l fun ln =>
    { ln.receiverAnew s.now with
      state := .guard, enteredAt := s.now, periodOver := false, holder := none, noYield := kind = .noYield }
  refine ⟨?_, ?_, ?_, fun _ => ?_, fun past time heard => ?_, fun held => by simp [brk] at held⟩
  · rw [line, if_neg into]
  · rw [line]
  · rw [line, if_neg into]
  · rw [line]; exact ⟨rfl, rfl, rfl, rfl, rfl, rfl⟩
  · exact heard.anew past rfl rfl (by rw [line]; nofun) (by rw [line]; rfl) fun _ sounding _ => sounding

/-- Every release with an effect (R62, R67, R68). -/
theorem released_releaseLine {b : Holder} {kind : ReleaseKind} (holder : (s.line l).holder = some b)
    (taken : (s.line l).state.taken = true) (effect : ¬ ((s.line l).state = .break ∧ kind = .brk)) :
    Released kind l s (releaseLine b kind l s) := by
  rcases LineState.taken_iff.1 taken with held | brk
  · by_cases kindBrk : kind = .brk
    · subst kindBrk; exact released_brk holder held
    · rw [releaseLine_held holder held kindBrk]; exact released_dropToGuard kindBrk
  · exact released_break holder brk fun kindBrk => effect ⟨brk, kindBrk⟩

/-- A release without an effect (R62). -/
theorem releaseLine_without_effect {b : Holder} {kind : ReleaseKind}
    (none : (s.line l).holder ≠ some b ∨ (s.line l).state.taken = false ∨ ((s.line l).state = .break ∧ kind = .brk)) :
    releaseLine b kind l s = s := by
  rcases none with other | free | ⟨brk, rfl⟩
  · exact releaseLine_of_not_holder other
  · exact releaseLine_not_taken free
  · simp [releaseLine, brk]

/-! ### The re-seize (R63, R91) -/

theorem exec_breakEnd {t0 : Nat} {rec : PreemptRecord} (running : s.running = true) (brk : (s.line l).state = .break)
    (isOver : (s.line l).enteredAt + 1000 ≤ s.now) (access : s.access.state = .preempt t0 l rec) (phase : rec.phase = .break) :
    exec (.breakEnd l) s = .next ((reseizeLine l s).setAccess (.check t0 l)) := by
  have due : breakDue l s = true := by simp [breakDue, running, brk, isOver]
  have effect : endBreak l s = (reseizeLine l s).setAccess (.check t0 l) := by simp [endBreak, access, phase]
  rw [← effect]
  exact whenDue_true due

/-! ### The two ends of a preemption (R91, R92) -/

/-- What is due of a demand in progress. -/
theorem demandingDue_of {t0 : Nat} {rec : PreemptRecord} {instant : PreemptRecord → Option Nat} {at_ : Nat} (running : s.running = true)
    (access : s.access.state = .preempt t0 l rec) (phase : rec.phase = .demanding) (is : instant rec = some at_)
    (due : at_ ≤ s.now) : demandingDue instant s = true := by
  simp [demandingDue, demandingRecord, access, running, phase, is, reached, due]

theorem exec_preemptSuccess {t0 since : Nat} {rec : PreemptRecord} (running : s.running = true)
    (access : s.access.state = .preempt t0 l rec) (phase : rec.phase = .demanding) (sole : rec.soleSince = some since)
    (due : since + 200 ≤ s.now) :
    exec .preemptSuccess s = .next ((releaseLine .access .brk l s).setAccess
      (.preempt t0 l { rec with phase := .break, gapEnd := none, nextDemand := none })) := by
  have isDue : preemptSuccessDue s = true := demandingDue_of running access phase (by rw [sole]; rfl) due
  have effect : exec .preemptSuccess s = .next (succeedPreempt s) := whenDue_true isDue
  rw [effect, succeedPreempt, access]

theorem exec_preemptResponseEnd {t0 : Nat} {rec : PreemptRecord} (running : s.running = true)
    (access : s.access.state = .preempt t0 l rec) (phase : rec.phase = .demanding) (due : rec.responseEnd ≤ s.now) :
    exec .preemptResponseEnd s = .next (chooseLine s.now (raiseHeadContention (releaseLine .access .noYield l s))) := by
  have isDue : preemptResponseDue s = true := demandingDue_of running access phase rfl due
  have effect : exec .preemptResponseEnd s = .next (failPreempt s) := whenDue_true isDue
  rw [effect, failPreempt, access]

/-- The head's contention raised by one, at most 15 (R83, R92). -/
theorem raiseHeadContention_eq {r : Report} (head : s.headReport = some r) :
    raiseHeadContention s = { s with queue := { s.queue with reports := s.queue.reports.map fun x =>
      if x.seq = r.seq then { x with contention := min (x.contention + 1) 15 } else x } } := by
  obtain ⟨q, is, found⟩ := Option.bind_eq_some_iff.1 head
  have seq := (report_mem found).2
  rw [raiseHeadContention, is, ← seq]
  rfl

theorem headReport_raiseHeadContention {r : Report} (head : s.headReport = some r) :
    (raiseHeadContention s).headReport.isSome = true := by
  obtain ⟨q, is, found⟩ := Option.bind_eq_some_iff.1 head
  have raised : raiseHeadContention s = s.setReport q fun r => { r with contention := saturatingSucc 15 r.contention } := by
    rw [raiseHeadContention, is]; rfl
  have is' : (raiseHeadContention s).queue.head = some q := by rw [raised]; exact is
  rw [State.headReport, is', raised, Option.bind_some, setReport_report s q q _ (by intro; rfl), if_pos rfl, found]
  rfl

/-- A line chosen is an IDLE one. -/
theorem chosen_chooseLine (t0 : Nat) {m : LineNo} (chosen : (chooseLine t0 s).access.state.chosen = some m) :
    (s.line m).state = .idle := by
  have awaited (m : LineNo) (chosen : (awaitLine t0 s).access.state.chosen = some m) : (s.line m).state = .idle := by
    obtain ⟨_, h⟩ | ⟨_, _, _, h⟩ | ⟨r, _, _, first, h⟩ := awaitLine_cases s t0 <;> rw [h] at chosen <;> cases chosen
    have found := List.find?_some first
    simp only [Bool.and_eq_true, decide_eq_true_eq] at found
    exact found.2
  obtain h | ⟨t, k, _, _, _, st, _, _, h⟩ := chooseLine_cases s t0 <;> rw [h] at chosen
  · exact awaited m chosen
  · cases chosen
    exact awaited _ (by rw [st]; rfl)

end

end Sys2Proof.Machine

namespace Sys2Proof.Proofs
open Sys2Proof Sys2Proof.Machine

/-- Settles O33, by the record of a line at each of its releases (`Released`) and the re-seize (`exec_breakEnd`). -/
theorem breaksAndReleases : Obligations.Breaks_and_releases := by
  refine ⟨fun l s t0 rec running brk isOver access phase => exec_breakEnd running brk isOver access phase, fun b kind l s =>
    ⟨releaseLine_without_effect, fun holder taken effect => ?_⟩⟩
  have h := released_releaseLine holder taken effect
  exact ⟨h.state, h.enteredAt, h.holder, h.receiver, h.hears, h.silenced, fun m other => line_releaseLine_ne other,
    (calm_releaseLine s b kind l).onlyAccess, access_releaseLine s b kind l, listener_releaseLine b kind l s⟩

/-- Settles O28, by the release into BREAK at success, and by the release into GUARD and the choice that leaves it at the response end. -/
theorem preemptionSucceedsOrFails : Obligations.Preemption_succeeds_or_fails := by
  refine ⟨fun s t0 since l rec running access phase sole due held holder => ?_,
    fun s t0 l rec r running access phase due held holder head => ?_⟩
  · have broken := released_brk holder held
    obtain ⟨-, current, -, -, silent, waiting⟩ := broken.silenced held
    have cursor : (releaseLine .access .brk l s).access.cursor = s.access.cursor := by rw [access_releaseLine]
    exact ⟨_, exec_preemptSuccess running access phase sole due, (calm_releaseLine s .access .brk l).onlyAccess,
      listener_releaseLine _ _ _ s, broken.state, broken.enteredAt, broken.holder, current, fun m other => line_releaseLine_ne other,
      congrArg (Access.mk _) cursor, silent, waiting⟩
  · have given := released_releaseLine (kind := .noYield) holder (by rw [held]; rfl) (by simp)
    have calm := calm_releaseLine s .access .noYield l
    let u := releaseLine .access .noYield l s
    have head' : u.headReport = some r := calm.headReport.trans head
    have raised := raiseHeadContention_eq head'
    have line : (raiseHeadContention u).line l = u.line l := by rw [raised]; rfl
    have state : (u.line l).state = .guard := given.state
    have chosen := line_chooseLine (raiseHeadContention u) (l := l) s.now (by rw [line, state]; nofun)
    have after := calm_chooseLine (raiseHeadContention u) s.now
    obtain ⟨noYield, -⟩ := given.receiver (by simp)
    refine ⟨_, exec_preemptResponseEnd running access phase due, ?_, ?_, ?_, ?_, ?_, t0_chooseLine _ _ (headReport_raiseHeadContention head'),
      fun mine => ?_, ?_, ?_, ?_, ?_, ?_⟩
    · rw [chosen, line]; exact state
    · rw [chosen, line]; exact noYield
    · rw [chosen, line]; exact given.holder
    · rw [chosen, line]; exact given.enteredAt
    · rw [after.queue, raised, ← calm.queue]
    · have idle := chosen_chooseLine _ mine
      rw [line, state] at idle
      cases idle
    · rw [after.kept.settings, raised]; exact calm.kept.settings
    · rw [after.kept.channels, raised]; exact calm.kept.channels
    · rw [after.call, raised]; exact calm.call
    · rw [after.trouble, raised]; exact calm.trouble
    · rw [after.kept.port, raised]; exact calm.kept.port

end Sys2Proof.Proofs
end

section
/-! The current of a held line: qualified bands, the check window and its result, intrusion and loop loss (R52, R60, R61, R64, R65, R83 to
R87). -/

namespace Sys2Proof.Machine

section
variable {s : State} {l : LineNo}

/-! ### Qualified current bands (R52, R60) -/

theorem exec_currentBandQualified {b : CurrentBand} (running : s.running = true) (held : (s.line l).state = .held)
    (sampled : (s.line l).sampledCurrent = some b) (new : (s.line l).qualifiedCurrent ≠ some b)
    (stood : (s.line l).currentSince + 20 ≤ s.now) : exec (.currentBandQualified l) s = .next (qualifyCurrent l s) := by
  have due : currentDue l s = true := by simp [currentDue, sensesCurrent, running, held, sampled, new.symm, stood]
  exact whenDue_true due

/-- The sampled current band becomes the qualified one: used by a check window, and told to the access controller outside one. -/
theorem qualifyCurrent_eq {b : CurrentBand} (sampled : (s.line l).sampledCurrent = some b) :
    qualifyCurrent l s =
      let s1 := s.setLine l fun ln => { ln with qualifiedCurrent := some b, qualifiedCurrentSince := s.now }
      if (s.line l).checkStart.isSome then if b = .shared then foundShared .collision l s1 else s1
      else if (s.line l).holder = some .access then accessCurrentChange b s1 else s1 := by
  have same : (s.setLine l fun ln => { ln with qualifiedCurrent := ln.sampledCurrent, qualifiedCurrentSince := s.now }) =
      s.setLine l fun ln => { ln with qualifiedCurrent := some b, qualifiedCurrentSince := s.now } :=
    State.setLine_congr s l _ _ (by rw [sampled])
  have holder : ((s.setLine l fun ln => { ln with qualifiedCurrent := some b, qualifiedCurrentSince := s.now }).line l).holder =
      (s.line l).holder := by rw [State.line_setLine]
  simp only [qualifyCurrent, sampled, same, tellCurrent, holder]

/-! ### The check window (R60, R61) -/

theorem checkVerdict_eq {ln : Line} {start : Nat} (window : ln.checkStart = some start) :
    checkVerdict ln =
      if ln.qualifiedCurrent = some .sole ∧ ln.qualifiedCurrentSince ≤ start + 200 then .clear
      else if ln.qualifiedCurrent = some .none then .noLoop else .unsettled := by
  unfold checkVerdict
  rw [window]
  cases ln.qualifiedCurrent with
  | none => rfl
  | some b => cases b <;> simp

theorem exec_checkWindowEnd {start : Nat} (running : s.running = true) (held : (s.line l).state = .held)
    (window : (s.line l).checkStart = some start) (isOver : start + 400 ≤ s.now) :
    exec (.checkWindowEnd l) s = .next (endCheckWindow l s) := by
  have due : checkWindowDue l s = true := by simp [checkWindowDue, sensesCurrent, running, held, window, reached, isOver]
  exact whenDue_true due

/-- A window's result: CLEAR, NO_LOOP, or UNSETTLED. -/
theorem endCheckWindow_eq {start : Nat} (window : (s.line l).checkStart = some start) :
    endCheckWindow l s =
      if (s.line l).qualifiedCurrent = some .sole ∧ (s.line l).qualifiedCurrentSince ≤ start + 200 then checkedClear l s
      else if (s.line l).qualifiedCurrent = some .none then checkedNoLoop l s
      else foundShared .unsettled l s := by
  rw [endCheckWindow, checkVerdict_eq window]
  split_ifs <;> rfl

/-! ### What the access controller makes of the result (R83 to R85) -/

section
variable {t0 : Nat} (access : s.access.state = .check t0 l)
include access

theorem accessCheckResult_shared {res : CheckResult} (shared : res = .collision ∨ res = .unsettled) :
    accessCheckResult res s = chooseLine s.now (raiseHeadContention s) := by
  rcases shared with rfl | rfl <;> rw [accessCheckResult, access]

theorem accessCheckResult_noLoop : accessCheckResult .noLoop s = chooseLine t0 s := by rw [accessCheckResult, access]

theorem accessCheckResult_clear : accessCheckResult .clear s = checkClear t0 l s := by rw [accessCheckResult, access]

end

theorem checkClear_of_head {r : Report} (head : s.headReport = some r) (t0 : Nat) :
    checkClear t0 l s =
      if s.permits r.matter.cls l then s.setAccess (.granted t0 l r.seq []) else chooseLine t0 (releaseLine .access .plain l s) := by
  rw [checkClear, head]; rfl

theorem checkClear_of_none (head : s.headReport = none) (t0 : Nat) :
    checkClear t0 l s = { releaseLine .access .plain l s with access := ⟨.idle, s.access.cursor⟩ } := by
  rw [checkClear, head, ← access_releaseLine s .access .plain l]; rfl

/-! ### Intrusion and loop loss (R64, R65, R87, R93) -/

theorem tellHolder_eq (access call : State → State) :
    tellHolder l access call s = match (s.line l).holder with
      | some .access => access s
      | some .call => if s.call.line = some l then call s else s
      | none => s := by
  unfold tellHolder
  cases (s.line l).holder with
  | none => rfl
  | some b => cases b <;> rfl

theorem exec_intrusion (running : s.running = true) (held : (s.line l).state = .held) (outside : (s.line l).checkStart = none)
    (shared : (s.line l).sampledCurrent = some .shared) (fromSole : (s.line l).sharedFromSole = true)
    (stood : (s.line l).currentSince + 50 ≤ s.now) :
    exec (.intrusion l) s =
      .next (tellHolder l accessIntrusion pauseCall (s.setLine l fun ln => { ln with sharedFromSole := false })) := by
  have due : intrusionDue l s = true := by simp [intrusionDue, sensesCurrent, running, held, outside, shared, fromSole, stood]
  show execIntrusion l s = _
  rw [execIntrusion, whenDue_true due]

theorem exec_loopLoss (running : s.running = true) (held : (s.line l).state = .held)
    (lost : (s.line l).sampledCurrent = some .none) (new : (s.line l).lossGiven = false)
    (stood : (s.line l).currentSince + 500 ≤ s.now) :
    exec (.loopLoss l) s =
      .next (tellHolder l accessLoopLoss callLoopLoss (s.setLine l fun ln => { ln with lossGiven := true })) := by
  have due : loopLossDue l s = true := by simp [loopLossDue, sensesCurrent, running, held, lost, new, stood]
  show execLoopLoss l s = _
  rw [execLoopLoss, whenDue_true due]

theorem callLoopLoss_eq :
    callLoopLoss s = if s.call.state = .idle ∨ s.call.state = .closing then s else endCall .loopLost s := by
  unfold callLoopLoss State.inCall
  by_cases idle : s.call.state = .idle <;> by_cases closing : s.call.state = .closing <;> simp [idle, closing]

theorem pauseCall_eq :
    pauseCall s =
      if s.call.state.pausable then
        s.setCall fun c =>
          { c with
            state := .paused, gapEnd := none, inPauseMark := false
            pause := some ⟨c.state, s.now + 1000, none, false⟩ }
      else if s.call.state = .paused then
        s.setCall fun c => { c with pause := c.pause.map fun p => { p with pauseEnd := s.now + 1000 } }
      else s := by
  unfold pauseCall
  cases s.call.state <;> rfl

end

end Sys2Proof.Machine

namespace Sys2Proof.Proofs
open Sys2Proof Sys2Proof.Machine

/-- Settles O31, by `qualifyCurrent_eq` and the access states one by one. -/
theorem currentBandQualifies : Obligations.Current_band_qualifies := by
  refine ⟨fun l b s running held sampled new stood => ?_, fun b s => ?_⟩
  · rw [exec_currentBandQualified running held sampled new stood, qualifyCurrent_eq sampled]
    rfl
  · unfold accessCurrentChange passWithGrant
    cases s.access.state <;> rfl

/-- Settles O32, by the window's verdict and the results case by case. -/
theorem checkWindowAndResult : Obligations.Check_window_and_result := by
  refine ⟨fun l start s running held window isOver => ?_, fun s t0 l access => ⟨fun r head => ?_, fun head => ?_⟩⟩
  · rw [exec_checkWindowEnd running held window isOver, endCheckWindow_eq window]
    rfl
  · have raised := raiseHeadContention_eq head
    refine ⟨?_, ?_, accessCheckResult_noLoop access, fun permitted => ?_, fun barred => ?_⟩
    · rw [accessCheckResult_shared access (.inl rfl), raised]
    · rw [accessCheckResult_shared access (.inr rfl), raised]
    · rw [accessCheckResult_clear access, checkClear_of_head head, if_pos (permits_iff.2 permitted)]
      rfl
    · rw [accessCheckResult_clear access, checkClear_of_head head, if_neg fun permits => barred (permits_iff.1 permits)]
  · rw [accessCheckResult_clear access, checkClear_of_none head]

/-- Settles O34, by the line's holder and the state of the block that holds it. -/
theorem heldLineEvents : Obligations.Held_line_events := by
  refine ⟨fun l s running held => ⟨fun outside shared fromSole stood => ?_, fun lost new stood => ?_⟩,
    fun s => ⟨?_, ?_, callLoopLoss_eq, pauseCall_eq⟩⟩
  · rw [exec_intrusion running held outside shared fromSole stood, tellHolder_eq, State.line_setLine]
    rfl
  · rw [exec_loopLoss running held lost new stood, tellHolder_eq, State.line_setLine]
    rfl
  · unfold accessIntrusion passWithGrant
    cases s.access.state <;> rfl
  · unfold accessLoopLoss passWithGrant
    cases s.access.state <;> rfl

end Sys2Proof.Proofs
end

section
/-! Lines that change state of themselves: qualified voltage bands, the ends of timed stays, dead runs and recovery (R51, R53 to R58,
R61), and what the access controller makes of the notice (R78, R80, R93). -/

namespace Sys2Proof.Machine

section
variable {s : State} {l : LineNo}

/-! ### Qualified voltage bands (R51, R53 to R57) -/

theorem movesLine_iff {ln : Line} {b : OnhookBand} :
    movesLine ln b = true ↔
      ((ln.state = .idle ∨ ln.state = .occupied ∨ ln.state = .suspect) ∧ b.lineState ≠ ln.state)
        ∨ (ln.periodOver = true ∧
            (ln.state = .settling ∨ ln.state = .guard ∨ (ln.state = .faulted ∧ ln.faultCause = some .noLoop))) := by
  unfold movesLine
  cases ln.state <;> simp

theorem exec_lineOnhookBandQualified {b : OnhookBand} (running : s.running = true) (notHeld : (s.line l).state ≠ .held)
    (fitted : (s.line l).state ≠ .unfitted) (sampled : (s.line l).sampledOnhook = some b)
    (new : (s.line l).qualifiedOnhook ≠ some b) (stood : (s.line l).onhookSince + 100 ≤ s.now) :
    exec (.lineOnhookBandQualified l) s = .next (
      let s1 := s.setLine l fun ln => { ln with qualifiedOnhook := some b }
      if movesLine (s.line l) b then enterOnhook l b s1 else s1) := by
  have due : onhookDue l s = true := by simp [onhookDue, sensesVoltage, running, notHeld, fitted, sampled, new.symm, stood]
  have same : (s.setLine l fun ln => { ln with qualifiedOnhook := ln.sampledOnhook }) =
      s.setLine l fun ln => { ln with qualifiedOnhook := some b } := State.setLine_congr s l _ _ (by rw [sampled])
  show execLineOnhookBandQualified l s = _
  rw [execLineOnhookBandQualified, whenDue_true due]
  simp only [qualifyOnhook, sampled, same]

/-- A line's record in the state of a band, field by field (R54, R55, R58). -/
theorem Line.enterOnhook_eq (now : Nat) (b : OnhookBand) (ln : Line) :
    ln.enterOnhook now b =
      { ln with
        state := match b with
          | .idle => .idle
          | .occupied => .occupied
          | .dead => .suspect
        enteredAt := now, periodOver := false, faultCause := none, occupant := none
        noYield := ln.noYield && decide (ln.state = .guard ∧ b = .occupied) } := by
  unfold Line.enterOnhook
  rw [Bool.decide_and, Bool.and_assoc]
  cases b <;> rfl

theorem deadRunLong_iff : deadRunLong l s = true ↔ ∃ d, (s.line l).deadRunStart = some d ∧ d + 10000 ≤ s.now := by
  unfold deadRunLong reached
  cases (s.line l).deadRunStart <;> simp

/-! ### Dead faults (R55, R61) -/

/-- The line of a dead fault: FAULTED with cause DEAD, and otherwise as the fault found it. -/
theorem line_deadFault :
    ((deadFault l s).line l).state = .faulted ∧ ((deadFault l s).line l).faultCause = some .dead ∧
      ((deadFault l s).line l).noLoop = (s.line l).noLoop := by
  unfold deadFault; split
  · rename_i faulted
    have line := State.line_setLine s l fun ln => { ln with faultCause := some .dead }
    rw [(acts_tellTrouble _ _ _).line (by rw [line, faulted]; rfl), line]
    exact ⟨faulted, rfl, rfl⟩
  · have line := State.line_setLine s l fun ln =>
      { ln with state := .faulted, enteredAt := s.now, periodOver := false, faultCause := some .dead }
    have acts := (acts_accessLineNotice (s.setLine l fun ln =>
      { ln with state := .faulted, enteredAt := s.now, periodOver := false, faultCause := some .dead }) l).trans
        (acts_tellTrouble _ (.lineDead l) true)
    rw [Acts.line acts (by rw [line]; rfl), line]
    exact ⟨rfl, rfl, rfl⟩

theorem active_deadFault : ((deadFault l s).cond (.lineDead l)).active = true := by
  unfold deadFault; split <;> exact (active_tellTrouble _ _ _ _ (by simp)).trans (if_pos rfl)

/-! ### The access controller's answer to a notice (R78, R80, R93) -/

theorem permittedForHead_iff : permittedForHead s l = true ↔ PermittedForHead s l := by
  unfold permittedForHead PermittedForHead
  cases s.headReport <;> simp [permits_iff]

theorem accessLineNotice_wait {t0 since : Nat} {waited : Bool} (access : s.access.state = .wait t0 since waited) :
    accessLineNotice l s =
      if permittedForHead s l then
        if (s.line l).state = .idle then chooseLine t0 s else laterPreemptionTest s
      else s := by
  rw [accessLineNotice, access]

theorem accessLineNotice_holdoff {t0 h base deadline : Nat} {chosen : LineNo}
    (access : s.access.state = .holdoff t0 chosen h base deadline) :
    accessLineNotice l s = if l = chosen ∧ (s.line l).state ≠ .idle then chooseLine t0 s else s := by
  rw [accessLineNotice, access]

theorem accessLineNotice_preempt {t0 : Nat} {held : LineNo} {rec : PreemptRecord} (access : s.access.state = .preempt t0 held rec) :
    accessLineNotice l s =
      if rec.phase = .demanding ∧ l ≠ held ∧ permittedForHead s l ∧ (s.line l).state = .idle then
        chooseLine t0 (releaseLine .access .plain held s)
      else s := by
  rw [accessLineNotice, access]; rfl

theorem accessLineNotice_other
    (access : s.access.state = .idle ∨ (∃ t0 m, s.access.state = .check t0 m) ∨ (∃ t0 m q passed, s.access.state = .granted t0 m q passed)) :
    accessLineNotice l s = s := by
  rcases access with idle | ⟨_, _, check⟩ | ⟨_, _, _, _, granted⟩
  · rw [accessLineNotice, idle]
  · rw [accessLineNotice, check]
  · rw [accessLineNotice, granted]

/-! ### Timed stays and recovery (R53, R56, R57, R61) -/

theorem endPeriod_eq :
    endPeriod l s = match (s.line l).qualifiedOnhook with
      | some b => enterOnhook l b s
      | none => s.setLine l fun ln => { ln with periodOver := true } := by
  unfold endPeriod
  cases (s.line l).qualifiedOnhook <;> rfl

theorem periodDue_of {st : LineState} {time : Nat} (running : s.running = true) (state : (s.line l).state = st)
    (going : (s.line l).periodOver = false) (isOver : (s.line l).enteredAt + time ≤ s.now) : periodDue st time l s = true := by
  simp [periodDue, running, state, going, isOver]

theorem exec_deadRunLimit {d : Nat} (running : s.running = true) (dead : (s.line l).deadRunStart = some d) (long : d + 10000 ≤ s.now)
    (faulty : (s.line l).state = .suspect ∨ ((s.line l).state = .faulted ∧ (s.line l).faultCause = some .noLoop)) :
    exec (.deadRunLimit l) s = .next (deadFault l s) := by
  have isLong : deadRunLong l s = true := deadRunLong_iff.2 ⟨d, dead, long⟩
  have due : deadRunDue l s = true := by simpa [deadRunDue, running, isLong] using faulty
  exact whenDue_true due

theorem exec_deadFaultRecovery {b : OnhookBand} (running : s.running = true) (faulted : (s.line l).state = .faulted)
    (cause : (s.line l).faultCause = some .dead) (sampled : (s.line l).sampledOnhook = some b) (alive : b ≠ .dead)
    (stood : (s.line l).onhookSince + 5000 ≤ s.now) :
    exec (.deadFaultRecovery l) s = .next (tellTrouble (.lineDead l) false (enterOnhook l b s)) := by
  have due : recoveryDue l s = true := by cases b <;> simp_all [recoveryDue]
  have effect : exec (.deadFaultRecovery l) s = .next (recoverLine l s) := whenDue_true due
  rw [effect, recoverLine, sampled]

end

end Sys2Proof.Machine

namespace Sys2Proof.Proofs
open Sys2Proof Sys2Proof.Machine

/-- Settles O29, by `movesLine_iff`, the record of `Line.enterOnhook_eq`, and the access states one by one. -/
theorem voltageBandQualifies : Obligations.Voltage_band_qualifies := by
  refine ⟨fun l b s running notHeld fitted sampled new stood => ?_, fun l b s => ?_, fun l s => ⟨fun t0 since waited access => ?_,
    fun t0 chosen h base deadline access => ?_, fun t0 held rec access => ?_, accessLineNotice_other⟩⟩
  · have taken := exec_lineOnhookBandQualified running notHeld fitted sampled new stood
    refine ⟨fun stays => ?_, fun moves => ?_⟩
    · rw [taken, if_neg fun moves => stays (movesLine_iff.1 moves)]
    · rw [taken, if_pos (movesLine_iff.2 moves)]
  · have entered := enterOnhook.eq_1 l b s
    rw [show Line.enterOnhook s.now b = _ from funext (Line.enterOnhook_eq s.now b)] at entered
    refine ⟨fun short => ?_, fun dead suspect long => ?_⟩
    · rw [entered]
      refine if_neg fun ⟨dead, isLong⟩ => ?_
      obtain ⟨d, start, long⟩ := deadRunLong_iff.1 isLong
      exact short.elim (fun alive => alive dead) fun early => absurd long (Nat.not_le.2 (early d start))
    · rw [entered]
      rw [if_pos ⟨dead, deadRunLong_iff.2 long⟩]
      obtain ⟨state, cause, -⟩ := line_deadFault
      exact ⟨state, cause, active_deadFault⟩
  · rw [accessLineNotice_wait access]
    refine ⟨fun barred => ?_, fun permitted idle => ?_, fun permitted busy => ?_⟩
    · rw [if_neg fun permits => barred (permittedForHead_iff.1 permits)]
    · rw [if_pos (permittedForHead_iff.2 permitted), if_pos idle]
    · rw [if_pos (permittedForHead_iff.2 permitted), if_neg busy]
  · rw [accessLineNotice_holdoff access]
    refine ⟨fun mine busy => if_pos ⟨mine, busy⟩, fun other => if_neg fun ⟨mine, busy⟩ => ?_⟩
    exact other.elim (fun no => no mine) busy
  · rw [accessLineNotice_preempt access]
    refine ⟨fun ⟨phase, other, permitted, idle⟩ => if_pos ⟨phase, other, permittedForHead_iff.2 permitted, idle⟩,
      fun keeps => if_neg fun ⟨phase, other, permits, idle⟩ => keeps ⟨phase, other, permittedForHead_iff.1 permits, idle⟩⟩

/-- Settles O30, by `endPeriod_eq` for the timed stays and `line_deadFault` for the dead runs. -/
theorem staysAndDeadRunsEnd : Obligations.Stays_and_dead_runs_end := by
  refine ⟨fun l s running going => ?_, fun l s running => ⟨fun d dead long faulty => ?_, fun b faulted cause sampled alive stood =>
    exec_deadFaultRecovery running faulted cause sampled alive stood⟩⟩
  · intro ended
    have same : endPeriod l s = ended := endPeriod_eq
    rw [← same]
    refine ⟨fun state isOver => ?_, fun state isOver => ?_, fun state cause isOver => ?_⟩
    · exact whenDue_true (periodDue_of running state going isOver)
    · exact whenDue_true (periodDue_of running state going isOver)
    · have due : noLoopFaultDue l s = true := by simp [noLoopFaultDue, periodDue_of running state going isOver, cause]
      exact whenDue_true due
  · obtain ⟨state, isDead, noLoop⟩ := line_deadFault
    have kept := kept_deadFault s l
    exact ⟨_, exec_deadRunLimit running dead long faulty, state, isDead, active_deadFault, noLoop, kept.channels, kept.settings,
      kept.port⟩

end Sys2Proof.Proofs
end

section
/-! What the receivers of the lines report: what a receiver hears, the limits of each report, and the pairs of the sixteen symbols
(R66 to R68, R169). -/

namespace Sys2Proof.Machine

section
variable {s : State} {l : LineNo} {time : Nat}

/-! ### What a receiver hears (R66 to R68) -/

theorem classifiedFor_iff {ln : Line} {now : Nat} :
    ln.classifiedFor time now = true ↔
      ln.receiverSince + time ≤ now ∨ ∃ f, ln.formerReceiver = some f ∧ f.ended = now ∧ f.since + time ≤ now := by
  unfold Line.classifiedFor
  cases ln.formerReceiver <;> simp

theorem toneSounds_eq_false_iff :
    toneSounds l s = false ↔ ∀ p, s.tone.sounding = some p → p.1.line = l → s.now + p.1.duration ≤ p.2 := by
  unfold toneSounds
  cases s.tone.sounding <;> simp

theorem hears_iff : hears l time s = true ↔ Hears l time s := by
  simp only [hears, Hears, Bool.and_eq_true, decide_eq_true_eq, Bool.not_eq_true', classifiedFor_iff, toneSounds_eq_false_iff,
    and_assoc]
  exact and_congr_right fun _ => and_congr_right fun _ => and_comm

/-- A receiver hears nothing on an UNFITTED line, in a start, and under the part's own tone. -/
theorem not_hears (silent : (s.line l).state = .unfitted ∨ s.running = false ∨
    ∃ r ends, s.tone.sounding = some (r, ends) ∧ r.line = l ∧ ends < s.now + r.duration) : ¬ Hears l time s := by
  rintro ⟨running, fitted, -, quiet⟩
  rcases silent with unfitted | stopped | ⟨r, ends, sounding, here, early⟩
  · exact fitted unfitted
  · simp [running] at stopped
  · exact absurd (quiet _ sounding here) (Nat.not_le.2 early)

/-! ### The limits of the reports (R66, R169) -/

theorem isCallProgress_iff {f : Nat} : isCallProgress f = true ↔ 3500 ≤ f ∧ f ≤ 5000 := by simp [isCallProgress]

theorem isHandshake_iff {f : Nat} : isHandshake f = true ↔ 13720 ≤ f ∧ f ≤ 14280 := by
  simp only [isHandshake, within2, decide_eq_true_eq]; omega

theorem isAck_iff {f : Nat} : isAck f = true ↔ 22540 ≤ f ∧ f ≤ 23460 := by
  simp only [isAck, within2, decide_eq_true_eq]; omega

theorem isBusy_iff {c : Cadence} : Cadence.isBusy c = true ↔ ∀ x ∈ [c.on1, c.off1, c.on2, c.off2], 200 ≤ x ∧ x ≤ 450 := by
  simp [Cadence.isBusy, busyPeriod, and_assoc]

/-! ### Each report, in the limits of its recognition -/

/-- A report with one effect in the limits of its recognition, and with none outside them. -/
def Reports (i : Instr) (limits : Prop) (s t : State) : Prop :=
  (limits → exec i s = .next t) ∧ (¬ limits → exec i s = .next s)

theorem reports_of_iff (i : Instr) (s : State) {due : Bool} {limits : Prop} {f : State → State} (is : exec i s = whenDue due f s)
    (iff : due = true ↔ limits) : Reports i limits s (f s) :=
  ⟨fun h => is.trans (whenDue_true (iff.2 h)), fun h => is.trans (whenDue_false (by rwa [← Bool.not_eq_true, iff]))⟩

/-- A sound of a length heard in the limits of its recognition. -/
theorem heard_iff {b : Bool} {P : Prop} (iff : b = true ↔ P) : (hears l time s && b) = true ↔ Hears l time s ∧ P := by
  rw [Bool.and_eq_true, hears_iff, iff]

/-- The end of a recognised tone that a receiver hears. -/
theorem heardEnd_iff {heard : Bool} {least d : Nat} :
    (hears l 0 s && heard && decide (least ≤ d)) = true ↔ Hears l 0 s ∧ heard = true ∧ least ≤ d := by
  rw [Bool.and_eq_true, Bool.and_eq_true, hears_iff, decide_eq_true_eq, and_assoc]

theorem reports_symbolReport {p : TonePair} {d : Nat} :
    Reports (.symbolReport l p d) (Hears l d s ∧ 40 ≤ d) s (match TonePair.sym p with
      | some y => reportSymbol l y d s
      | none => s) :=
  reports_of_iff (.symbolReport l p d) s (execSymbolReport.eq_1 l p d s) (heard_iff decide_eq_true_iff)

theorem reports_dialRecognised {f : Nat} :
    Reports (.dialRecognised l f) (Hears l 500 s ∧ 3500 ≤ f ∧ f ≤ 5000) s
      (routeTone l callDial (discardStream l) (noteHeard l (fun ln => { ln with dialHeard := true }) s)) :=
  reports_of_iff (.dialRecognised l f) s (execDialRecognised.eq_1 l f s) (heard_iff isCallProgress_iff)

theorem reports_busyReport {f : Nat} {c : Cadence} :
    Reports (.busyReport l f c) (Hears l (c.on1 + c.off1 + c.on2 + c.off2) s ∧ (3500 ≤ f ∧ f ≤ 5000) ∧
        ∀ x ∈ [c.on1, c.off1, c.on2, c.off2], 200 ≤ x ∧ x ≤ 450) s
      (routeTone l callBusy (discardStream l) (noteHeard l id s)) := by
  have limits : (hears l (Cadence.length c) s && isCallProgress f && Cadence.isBusy c) = true ↔
      Hears l (Cadence.length c) s ∧ (3500 ≤ f ∧ f ≤ 5000) ∧ ∀ x ∈ [c.on1, c.off1, c.on2, c.off2], 200 ≤ x ∧ x ≤ 450 := by
    rw [Bool.and_assoc]
    exact heard_iff (by rw [Bool.and_eq_true, isCallProgress_iff, isBusy_iff])
  exact reports_of_iff (.busyReport l f c) s (execBusyReport.eq_1 l f c s) limits

theorem reports_handshakeRecognised {f : Nat} :
    Reports (.handshakeRecognised l f) (Hears l 300 s ∧ 13720 ≤ f ∧ f ≤ 14280) s
      (routeTone l callHandshake (discardStream l) (noteHeard l (fun ln => { ln with handshakeHeard := true }) s)) :=
  reports_of_iff (.handshakeRecognised l f) s (execHandshakeRecognised.eq_1 l f s) (heard_iff isHandshake_iff)

theorem reports_ackRecognised {f : Nat} :
    Reports (.ackRecognised l f) (Hears l 400 s ∧ 22540 ≤ f ∧ f ≤ 23460) s
      (routeTone l callAck (fun t => peerAck l (discardStream l t)) (noteHeard l (fun ln => { ln with ackHeard := true }) s)) :=
  reports_of_iff (.ackRecognised l f) s (execAckRecognised.eq_1 l f s) (heard_iff isAck_iff)

theorem reports_dialEnd {d : Nat} :
    Reports (.dialEnd l d) (Hears l 0 s ∧ (s.line l).dialHeard = true ∧ 500 ≤ d) s
      (noteHeard l (fun ln => { ln with dialHeard := false }) s) :=
  reports_of_iff (.dialEnd l d) s (execDialEnd.eq_1 l d s) heardEnd_iff

theorem reports_handshakeEnd {d : Nat} :
    Reports (.handshakeEnd l d) (Hears l 0 s ∧ (s.line l).handshakeHeard = true ∧ 300 ≤ d) s
      (routeTone l callHandshakeEnd id (noteHeard l (fun ln => { ln with handshakeHeard := false }) s)) :=
  reports_of_iff (.handshakeEnd l d) s (execHandshakeEnd.eq_1 l d s) heardEnd_iff

theorem reports_ackEnd {d : Nat} :
    Reports (.ackEnd l d) (Hears l 0 s ∧ (s.line l).ackHeard = true ∧ 400 ≤ d) s
      (routeTone l callAckEnd id (noteHeard l (fun ln => { ln with ackHeard := false }) s)) :=
  reports_of_iff (.ackEnd l d) s (execAckEnd.eq_1 l d s) heardEnd_iff

/-- SILENCE is due: nothing recognised for 300 ms of a receiver that has classified for them (R66; log entry 9). -/
def SilenceIsDue (l : LineNo) (s : State) : Prop :=
  Hears l 300 s ∧ (s.line l).toSilence = true ∧ (s.line l).lastHeard + 300 ≤ s.now ∧ (s.line l).dialHeard = false ∧
    (s.line l).handshakeHeard = false ∧ (s.line l).ackHeard = false

theorem silenceDue_iff : silenceDue l s = true ↔ SilenceIsDue l s := by
  simp only [silenceDue, SilenceIsDue, Bool.and_eq_true, hears_iff, decide_eq_true_eq, Bool.not_eq_true', and_assoc]
  rfl

theorem reports_silenceReport :
    Reports (.silenceReport l) (SilenceIsDue l s) s
      (routeTone l id (discardStream l) (s.setLine l fun ln => { ln with toSilence := false })) :=
  reports_of_iff (.silenceReport l) s (execSilenceReport.eq_1 l s) silenceDue_iff

/-! ### Where a report goes (R67) -/

theorem routeTone_free {t : State} (call peer : State → State) (free : (t.line l).state.taken = false) :
    routeTone l call peer t = peer t := by
  rw [LineState.taken_eq_false_iff] at free
  rw [routeTone, if_neg (by rintro (held | brk); exacts [free.1 held, free.2 brk])]

theorem routeTone_call {t : State} (call peer : State → State) (taken : (t.line l).state.taken = true)
    (mine : t.call.line = some l) : routeTone l call peer t = call t := by
  rw [routeTone, if_pos (LineState.taken_iff.1 taken), if_pos mine]

theorem routeTone_other {t : State} (call peer : State → State) (taken : (t.line l).state.taken = true)
    (other : t.call.line ≠ some l) : routeTone l call peer t = t := by
  rw [routeTone, if_pos (LineState.taken_iff.1 taken), if_neg other]

/-! ### The pairs of the sixteen symbols (R169) -/

/-- The nominal frequencies of the low group. -/
def lowFreq : Fin 4 → Nat := #v[697, 770, 852, 941].get
/-- The nominal frequencies of the high group. -/
def highFreq : Fin 4 → Nat := #v[1209, 1336, 1477, 1633].get

/-- The bands of the low group do not meet, so that a frequency is of a row just when it is near the row's. -/
theorem lowGroup_eq_some_iff {r : Fin 4} {f : Nat} :
    lowGroup f = some r ↔ 98 * lowFreq r ≤ 10 * f ∧ 10 * f ≤ 102 * lowFreq r := by
  unfold lowGroup
  simp only [within2, decide_eq_true_eq]
  split_ifs <;> fin_cases r <;> simp [lowFreq, Vector.get] <;> omega

theorem highGroup_eq_some_iff {c : Fin 4} {f : Nat} :
    highGroup f = some c ↔ 98 * highFreq c ≤ 10 * f ∧ 10 * f ≤ 102 * highFreq c := by
  unfold highGroup
  simp only [within2, decide_eq_true_eq]
  split_ifs <;> fin_cases c <;> simp [highFreq, Vector.get] <;> omega

/-- No frequency is of both groups. -/
theorem lowGroup_of_highGroup {c : Fin 4} {f : Nat} (high : highGroup f = some c) : lowGroup f = none := by
  have far : 11840 ≤ f := by
    rw [highGroup_eq_some_iff] at high
    fin_cases c <;> simp [highFreq, Vector.get] at high <;> omega
  rw [Option.eq_none_iff_forall_ne_some]
  intro r low
  rw [lowGroup_eq_some_iff] at low
  fin_cases r <;> simp [lowFreq, Vector.get] at low <;> omega

theorem orderedPair_eq_some_iff {low high : Nat} {y : Sym} :
    orderedPair low high = some y ↔ ∃ r c, lowGroup low = some r ∧ highGroup high = some c ∧ keypad r c = y := by
  unfold orderedPair
  cases lowGroup low <;> cases highGroup high <;> simp

/-- A pair of a row and a column is their symbol, in either order. -/
theorem sym_of_groups {low high : Nat} {r c : Fin 4} (row : lowGroup low = some r) (column : highGroup high = some c) :
    TonePair.sym ⟨low, high⟩ = some (keypad r c) ∧ TonePair.sym ⟨high, low⟩ = some (keypad r c) := by
  have inOrder : orderedPair low high = some (keypad r c) := orderedPair_eq_some_iff.2 ⟨r, c, row, column, rfl⟩
  have swapped : orderedPair high low = none := by
    rw [Option.eq_none_iff_forall_ne_some]
    intro y is
    obtain ⟨_, _, isLow, -⟩ := orderedPair_eq_some_iff.1 is
    simp [lowGroup_of_highGroup column] at isLow
  simp [TonePair.sym, inOrder, swapped]

/-- A pair of no row and column in either order is no symbol. -/
theorem sym_eq_none {a b : Nat} (apart : ∀ r c, ¬ (lowGroup a = some r ∧ highGroup b = some c) ∧
    ¬ (lowGroup b = some r ∧ highGroup a = some c)) : TonePair.sym ⟨a, b⟩ = none := by
  have unordered (low high : Nat) (h : ∀ r c, ¬ (lowGroup low = some r ∧ highGroup high = some c)) :
      orderedPair low high = none := by
    rw [Option.eq_none_iff_forall_ne_some]
    intro y is
    obtain ⟨r, c, row, column, -⟩ := orderedPair_eq_some_iff.1 is
    exact h r c ⟨row, column⟩
  simp [TonePair.sym, unordered a b fun r c => (apart r c).1, unordered b a fun r c => (apart r c).2]

/-- The pair of a symbol's row and column. -/
theorem pair_keypad (r c : Fin 4) : Sym.pair (keypad r c) = ⟨10 * lowFreq r, 10 * highFreq c⟩ := by
  revert r c; decide

end

end Sys2Proof.Machine

namespace Sys2Proof.Proofs
open Sys2Proof Sys2Proof.Machine

/-- Settles O35: each report in its limits and outside them (`Reports`), routed to the peer listener, and the table by its rows and
columns. -/
theorem tonesReachPeerListener : Obligations.Tones_reach_peer_listener := by
  refine ⟨fun l s free => ?_, fun l s => ?_, ?_⟩
  · have routed (f : Line → Line) (call peer : State → State) (same : (f (s.line l)).state = (s.line l).state) :
        routeTone l call peer (noteHeard l f s) = peer (noteHeard l f s) :=
      routeTone_free call peer (by rw [noteHeard, State.line_setLine]; exact same ▸ free)
    refine ⟨fun p d heard long => ?_, fun heard f low high => ?_, fun f c heard low high busy => ?_, fun heard f low high => ?_,
      fun heard f low high => ?_, fun heard tone d long => ?_, fun heard tone d long => ?_, fun heard tone d long => ?_,
      fun heard toSilence quiet dial handshake ack => ?_⟩
    · rw [reports_symbolReport.1 ⟨heard, long⟩]
      cases TonePair.sym p with
      | none => rfl
      | some y => exact congrArg Host.Outcome.next (routed id _ _ rfl)
    · rw [reports_dialRecognised.1 ⟨heard, low, high⟩, routed _ _ _ rfl]; rfl
    · rw [reports_busyReport.1 ⟨heard, ⟨low, high⟩, busy⟩, routed _ _ _ rfl]; rfl
    · rw [reports_handshakeRecognised.1 ⟨heard, low, high⟩, routed _ _ _ rfl]; rfl
    · rw [reports_ackRecognised.1 ⟨heard, low, high⟩, routed _ _ _ rfl]; rfl
    · exact reports_dialEnd.1 ⟨heard, tone, long⟩
    · rw [reports_handshakeEnd.1 ⟨heard, tone, long⟩, routed _ _ _ rfl]; rfl
    · rw [reports_ackEnd.1 ⟨heard, tone, long⟩, routed _ _ _ rfl]; rfl
    · rw [reports_silenceReport.1 ⟨heard, toSilence, quiet, dial, handshake, ack⟩,
        routeTone_free _ _ (by rw [State.line_setLine]; exact free)]
  · have short {n m : Nat} (lt : n < m) : ¬ m ≤ n := Nat.not_le.2 lt
    refine ⟨fun p d out => ?_, fun f out => ?_, fun f c out => ?_, fun f out => ?_, fun f out => ?_, fun d out => ?_, fun d out => ?_,
      fun d out => ?_, fun out => ?_, fun time => not_hears⟩
    · by_cases inside : Hears l d s ∧ 40 ≤ d
      · have none : TonePair.sym p = none :=
          (out.resolve_left fun no => no inside.1).resolve_left fun no => short no inside.2
        rw [reports_symbolReport.1 inside, none]
      · exact reports_symbolReport.2 inside
    · exact reports_dialRecognised.2 fun ⟨heard, tone⟩ => out.elim (fun no => no heard) fun no => no tone
    · refine reports_busyReport.2 fun ⟨heard, tone, busy⟩ => ?_
      rcases out with no | no | ⟨x, mem, low | high⟩
      · exact no heard
      · exact no tone
      · exact short low (busy x mem).1
      · exact short high (busy x mem).2
    · refine reports_handshakeRecognised.2 fun ⟨heard, low, high⟩ => ?_
      exact out.elim (fun no => no heard) fun no => no.elim (fun no => short no low) fun no => short no high
    · refine reports_ackRecognised.2 fun ⟨heard, low, high⟩ => ?_
      exact out.elim (fun no => no heard) fun no => no.elim (fun no => short no low) fun no => short no high
    · exact reports_dialEnd.2 fun ⟨heard, tone, long⟩ => by simp_all; omega
    · exact reports_handshakeEnd.2 fun ⟨heard, tone, long⟩ => by simp_all; omega
    · exact reports_ackEnd.2 fun ⟨heard, tone, long⟩ => by simp_all; omega
    · refine reports_silenceReport.2 fun ⟨heard, toSilence, quiet, dial, handshake, ack⟩ => ?_
      simp_all; omega
  · intro near table
    have cells : ∀ row ∈ table, ∃ r c, row = (lowFreq r, highFreq c, keypad r c) := by decide
    have rows : ∀ r c, (lowFreq r, highFreq c, keypad r c) ∈ table := by decide
    refine ⟨fun row mem => ?_, fun a b apart => sym_eq_none fun r c => ?_⟩
    · obtain ⟨r, c, rfl⟩ := cells row mem
      exact ⟨pair_keypad r c, fun low high nearLow nearHigh =>
        sym_of_groups (lowGroup_eq_some_iff.2 nearLow) (highGroup_eq_some_iff.2 nearHigh)⟩
    · simp only [lowGroup_eq_some_iff, highGroup_eq_some_iff]
      exact apart _ (rows r c)

end Sys2Proof.Proofs
end

section
/-! Tone reports in a call, and the ends of the tones that the part sends (R67, R68, R90, R96, R100 to R107, R113, R114). -/

namespace Sys2Proof.Machine

section
variable {s : State} {l : LineNo}

/-! ### The state a call works in (R113) -/

/-- Out of a pause a call works in its own state. -/
theorem working_of_not_paused {c : Call} (ne : c.state ≠ .paused) : c.working = c.state := by
  unfold Call.working
  split
  · rename_i paused _; exact absurd paused ne
  · rfl

/-- A call works in its state, or in the one it is paused from. -/
theorem working_eq_iff {c : Call} {st : CallState} (ne : st ≠ .paused) :
    c.working = st ↔ (c.state = st ∧ st ≠ .paused) ∨ (c.state = .paused ∧ ∃ p, c.pause = some p ∧ p.from_ = st) := by
  by_cases paused : c.state = .paused
  · unfold Call.working
    cases c.pause <;> simp [paused, ne, ne.symm]
  · rw [working_of_not_paused paused]
    simp [paused, ne]

/-! ### What each report does in a call (R100 to R107, R113) -/

theorem callDial_waiting (waiting : s.call.state = .dialtoneWait) : callDial s = startDialling s := by
  rw [callDial, waiting]

theorem callDial_paused (paused : s.call.state = .paused) (from_ : s.call.working = .dialtoneWait) :
    callDial s =
      s.setCall fun c => { c with dialDeadline := none, pause := c.pause.map fun p => { p with dialNoted := true } } := by
  rw [callDial, paused]
  exact if_pos from_

theorem callDial_other (other : s.call.working ≠ .dialtoneWait) : callDial s = s := by
  unfold callDial
  split
  · rename_i waiting
    exact absurd (by rw [working_of_not_paused (by simp [waiting]), waiting]) other
  · exact if_neg other
  · rfl

theorem callAck_eq (s : State) :
    callAck s =
      if (s.call.working = .awaitAck ∨ s.call.state = .sendingBlock) ∧ ackCounts s then countAck s else s := by
  unfold callAck
  split
  · rename_i awaiting
    simp [awaiting, working_of_not_paused (c := s.call) (by simp [awaiting])]
  · rename_i sending; simp [sending]
  · rename_i paused; simp [paused]
  · rename_i notAwaiting notSending notPaused
    rw [if_neg]
    rintro ⟨awaiting | sending, -⟩
    · exact notAwaiting (working_of_not_paused notPaused ▸ awaiting)
    · exact notSending sending

theorem ackCounts_iff :
    ackCounts s = true ↔
      s.call.inFlight = true ∧ ((∃ d, s.call.ackDeadline = some d ∧ s.now ≤ d) ∨ s.call.ackExpired = some s.now) := by
  unfold ackCounts
  cases s.call.ackDeadline <;> simp

theorem ackEndExpected_iff :
    ackEndExpected s = true ↔ s.call.ackEndAwaited = true ∧ ∃ due, s.call.leadIn = some due ∧ s.now ≤ due := by
  unfold ackEndExpected
  cases s.call.leadIn <;> simp

theorem callSymbol_of_not_paused {y : Sym} {d : Nat} (running : s.call.state ≠ .paused) : callSymbol y d s = s := if_neg running

/-! ### The end of a tone (R68, R90, R101, R103) -/

/-- The preempt record after a tone on its line, while it demands (R90). -/
theorem accessToneDone_eq (l : LineNo) (y : Sym) (s : State) :
    accessToneDone l y s = { s with access := { s.access with state := match s.access.state with
      | .preempt t0 held rec => .preempt t0 held (if held = l ∧ rec.phase = .demanding then
          if y = .d then { rec with gapEnd := some (s.now + 200) }
          else if rec.demands < 3 then { rec with nextDemand := some (s.now + 400) } else rec
        else rec)
      | a => a } } := by
  unfold accessToneDone
  cases access : s.access.state
  case preempt t0 held rec => dsimp only; split_ifs <;> simp [State.setAccess, ← access]
  all_goals simp [← access]

/-- The gap after a digit or a block symbol begins when no tone is left (R101, R103). -/
theorem callToneDone_eq {none : Prop} [Decidable none] (silent : s.tone.sounding.isNone = true ↔ none) :
    callToneDone l s = { s with call := if s.call.line = some l ∧ none then match s.call.state with
        | .dialling => { s.call with gapEnd := some (s.now + 80) }
        | .sendingBlock => { s.call with gapEnd := some (s.now + 60) }
        | _ => s.call
      else s.call } := by
  unfold callToneDone
  by_cases mine : s.call.line = some l ∧ none
  · rw [if_pos ⟨mine.1, silent.2 mine.2⟩, if_pos mine]
    cases s.call.state <;> rfl
  · rw [if_neg fun is => mine ⟨is.1, silent.1 is.2⟩, if_neg mine]

theorem sounding_finishTone (r : ToneRequest) (s : State) :
    (finishTone r s).tone.sounding.isNone = true ↔ s.tone.waiting = [] := by
  unfold finishTone
  cases s.tone.waiting <;> simp [startTone]

theorem exec_toneRequestDone {r : ToneRequest} {ends : Nat} (running : s.running = true)
    (sounding : s.tone.sounding = some (r, ends)) (due : ends ≤ s.now) :
    exec .toneRequestDone s = .next (callToneDone r.line (accessToneDone r.line r.sym (finishTone r s))) := by
  have isDue : toneDue s = true := by simp [toneDue, sounding, running, due]
  have effect : exec .toneRequestDone s = .next (endTone s) := whenDue_true isDue
  rw [effect, endTone, sounding]

end

end Sys2Proof.Machine

namespace Sys2Proof.Proofs
open Sys2Proof Sys2Proof.Machine

/-- Settles O36: each report in its limits (`Reports`), routed to the call engine on the call's line and to nobody on another taken
line, and what the call engine makes of it in the state it works in. -/
theorem tonesReachCallEngine : Obligations.Tones_reach_call_engine := by
  refine ⟨fun l s held mine => ?_, fun l s taken other => ?_⟩
  · intro noted pausedFrom working
    have taken : (s.line l).state.taken = true := by rw [held]; rfl
    have routed (f : Line → Line) (call peer : State → State) (same : (f (s.line l)).state = (s.line l).state) :
        routeTone l call peer (noteHeard l f s) = call (noted f) :=
      routeTone_call call peer (by rw [noteHeard, State.line_setLine]; exact same ▸ taken) mine
    have works {st : CallState} (ne : st ≠ .paused) : s.call.working = st ↔ working st := working_eq_iff ne
    refine ⟨fun heard f low high => ?_, fun f c heard low high busy => ?_, fun heard f low high => ?_,
      fun heard tone d long => ?_, fun heard f low high => ?_, fun heard tone d long => ?_, fun p d y heard long symbol going => ?_,
      fun heard tone d long => reports_dialEnd.1 ⟨heard, tone, long⟩, fun heard toSilence quiet dial handshake ack => ?_⟩
    · intro dialled
      rw [reports_dialRecognised.1 ⟨heard, low, high⟩, routed _ _ _ rfl]
      have waits : dialled.call.working = .dialtoneWait ↔ working .dialtoneWait := works (by simp)
      exact ⟨fun waiting => congrArg Host.Outcome.next (callDial_waiting (s := dialled) waiting),
        fun from_ => congrArg Host.Outcome.next (callDial_paused (s := dialled) from_.1 (waits.2 (.inr from_))),
        fun other => congrArg Host.Outcome.next (callDial_other fun is => other (waits.1 is))⟩
    · rw [reports_busyReport.1 ⟨heard, ⟨low, high⟩, busy⟩, routed _ _ _ rfl]
      exact ⟨fun is => congrArg Host.Outcome.next (if_pos ((works (by simp)).2 is)),
        fun no => congrArg Host.Outcome.next (if_neg fun is => no ((works (by simp)).1 is))⟩
    · rw [reports_handshakeRecognised.1 ⟨heard, low, high⟩, routed _ _ _ rfl]
      exact ⟨fun is => congrArg Host.Outcome.next (if_pos ((works (by simp)).2 is)),
        fun no => congrArg Host.Outcome.next (if_neg fun is => no ((works (by simp)).1 is))⟩
    · rw [reports_handshakeEnd.1 ⟨heard, tone, long⟩, routed _ _ _ rfl]
      exact ⟨fun is => congrArg Host.Outcome.next (if_pos ((works (by simp)).2 is)),
        fun no => congrArg Host.Outcome.next (if_neg fun is => no ((works (by simp)).1 is))⟩
    · intro answered counts
      have takes : ((answered.call.working = .awaitAck ∨ answered.call.state = .sendingBlock) ∧ ackCounts answered = true) ↔
          (working .awaitAck ∨ s.call.state = .sendingBlock) ∧ counts :=
        and_congr (or_congr (works (by simp)) Iff.rfl) ackCounts_iff
      rw [reports_ackRecognised.1 ⟨heard, low, high⟩, routed _ _ _ rfl, callAck_eq]
      exact ⟨fun is counts => congrArg Host.Outcome.next (if_pos (takes.2 ⟨is, counts⟩)),
        fun no => congrArg Host.Outcome.next (if_neg fun is => no (takes.1 is))⟩
    · intro answered awaited
      have takes : (answered.call.working = .awaitAck ∧ ackEndExpected answered = true) ↔ awaited :=
        and_congr (works (by simp)) ackEndExpected_iff
      rw [reports_ackEnd.1 ⟨heard, tone, long⟩, routed _ _ _ rfl]
      exact ⟨fun is => congrArg Host.Outcome.next (if_pos (takes.2 is)),
        fun no => congrArg Host.Outcome.next (if_neg fun is => no (takes.1 is))⟩
    · rw [reports_symbolReport.1 ⟨heard, long⟩, symbol]
      exact congrArg Host.Outcome.next ((routed id _ _ rfl).trans (callSymbol_of_not_paused going))
    · rw [reports_silenceReport.1 ⟨heard, toSilence, quiet, dial, handshake, ack⟩]
      exact congrArg Host.Outcome.next
        (routeTone_call (t := s.setLine l _) _ _ (by rw [State.line_setLine]; exact taken) mine)
  · have routed (f : Line → Line) (call peer : State → State) (same : (f (s.line l)).state = (s.line l).state) :
        routeTone l call peer (noteHeard l f s) = noteHeard l f s :=
      routeTone_other call peer (by rw [noteHeard, State.line_setLine]; exact same ▸ taken) other
    refine ⟨fun p d y heard long symbol => ?_, fun heard f low high => ?_, fun f c heard low high busy => ?_,
      fun heard f low high => ?_, fun heard f low high => ?_, fun heard tone d long => reports_dialEnd.1 ⟨heard, tone, long⟩,
      fun heard tone d long => ?_, fun heard tone d long => ?_, fun heard toSilence quiet dial handshake ack => ?_⟩
    · rw [reports_symbolReport.1 ⟨heard, long⟩, symbol]
      exact congrArg Host.Outcome.next (routed id _ _ rfl)
    · rw [reports_dialRecognised.1 ⟨heard, low, high⟩, routed _ _ _ rfl]; rfl
    · rw [reports_busyReport.1 ⟨heard, ⟨low, high⟩, busy⟩, routed _ _ _ rfl]; rfl
    · rw [reports_handshakeRecognised.1 ⟨heard, low, high⟩, routed _ _ _ rfl]; rfl
    · rw [reports_ackRecognised.1 ⟨heard, low, high⟩, routed _ _ _ rfl]; rfl
    · rw [reports_handshakeEnd.1 ⟨heard, tone, long⟩, routed _ _ _ rfl]; rfl
    · rw [reports_ackEnd.1 ⟨heard, tone, long⟩, routed _ _ _ rfl]; rfl
    · rw [reports_silenceReport.1 ⟨heard, toSilence, quiet, dial, handshake, ack⟩]
      exact congrArg Host.Outcome.next
        (routeTone_other (t := s.setLine l _) _ _ (by rw [State.line_setLine]; exact taken) other)

/-- Settles O37, by the next request in order (`finishTone`) and the record of the block that asked for the tone. -/
theorem toneFinishes : Obligations.Tone_finishes := by
  intro s r ends running sounding due
  have silent : (accessToneDone r.line r.sym (finishTone r s)).tone.sounding.isNone = true ↔ s.tone.waiting = [] := by
    rw [accessToneDone_eq]; exact sounding_finishTone r s
  rw [exec_toneRequestDone running sounding due, callToneDone_eq silent, accessToneDone_eq]
  unfold finishTone
  cases s.tone.waiting <;> rfl

end Sys2Proof.Proofs
end

section
/-! What the peer listener makes of symbols and valid blocks (R58, R69, R78, R123 to R128, R131). -/

namespace Sys2Proof.Machine

section
variable {s : State} {l : LineNo}

/-! ### The occupant class (R58, R78) -/

/-- What becomes of a line's occupant does not change whether it is permitted for the head. -/
theorem permittedForHead_setLine (f : Line → Line) (fitted : (f (s.line l)).fitted = (s.line l).fitted) :
    permittedForHead (s.setLine l f) l = permittedForHead s l := by
  have head : (s.setLine l f).headReport = s.headReport := rfl
  unfold permittedForHead
  rw [head]
  cases s.headReport with
  | none => rfl
  | some r =>
    have masks : (s.setLine l f).settings = s.settings := rfl
    simp only [State.permits, State.line_setLine, fitted, masks]

theorem takesOccupant_setOccupant (l : LineNo) (k : ReportClass) (s : State) : TakesOccupant l k s (setOccupant l k s) := by
  refine ⟨fun kept => ?_, fun occupied other => ?_⟩
  · unfold setOccupant
    split
    · rename_i occupied
      exact if_pos (kept.resolve_left fun not => not occupied)
    · rfl
  · have permitted := permittedForHead_setLine (s := s) (l := l) (fun ln => { ln with occupant := some k }) rfl
    rw [setOccupant, if_pos occupied, if_neg other, accessOccupantNotice, permitted]
    exact ⟨fun barred => if_neg fun permits => barred (permittedForHead_iff.1 permits),
      fun permitted => if_pos (permittedForHead_iff.2 permitted)⟩

/-! ### The symbols of a stream (R123 to R126) -/

/-- A symbol taken with no stream in progress (R123, R126). -/
theorem peerSymbolAlone_eq (l : LineNo) (y : Sym) (duration : Nat) (u : State) :
    peerSymbolAlone l y duration u =
      if y = .star then u.setDecoder l fun d => { d with stream := some ⟨[], u.now⟩, dEnded := none }
      else if y = .d then u.setDecoder l fun d => { d with dEnded := if 500 ≤ duration then some u.now else none }
      else
        let v := u.setDecoder l fun d => { d with dEnded := none }
        match (u.decoder l).dEnded, y.classOf with
        | some e, some c => if u.now - duration ≤ e + 300 then setOccupant l c v else v
        | _, _ => v := by
  unfold peerSymbolAlone demandClass setDEnded setStream
  rw [State.setDecoder_setDecoder]
  by_cases star : y = .star
  · rw [if_pos star, if_pos star]
  · by_cases isD : y = .d
    · rw [if_neg star, if_pos isD, if_neg star, if_pos isD]
    · rw [if_neg star, if_neg isD, if_neg star, if_neg isD]
      cases (u.decoder l).dEnded with
      | none => rfl
      | some e =>
        cases y.classOf with
        | none => rfl
        | some c => dsimp only; split_ifs <;> rfl

/-- A stream broken off: gone, and counted as garbled on a fitted line (R125). -/
theorem discardStream_eq {st : Stream} (stream : (s.decoder l).stream = some st) :
    discardStream l s =
      let u := s.setDecoder l fun d => { d with stream := none }
      if (s.line l).state = .unfitted then u
      else u.setLine l fun ln => { ln with garbled := min (ln.garbled + 1) 65535 } := by
  rw [discardStream, stream]; rfl

theorem peerSymbol_of_none (y : Sym) (duration : Nat) (none : (s.decoder l).stream = none) :
    peerSymbol l y duration s = peerSymbolAlone l y duration s := by
  rw [peerSymbol, none]

section
variable {st : Stream} (stream : (s.decoder l).stream = some st) {y : Sym} {duration : Nat}
include stream

theorem peerSymbol_breaks (breaks : y = .star ∨ y = .d ∨ st.latestEnd + 300 < s.now - duration ∨ (y ≠ .hash ∧ 18 ≤ st.syms.length)) :
    peerSymbol l y duration s = peerSymbolAlone l y duration (discardStream l s) := by
  rw [peerSymbol, stream]
  dsimp only
  by_cases now : y = .star ∨ y = .d ∨ st.latestEnd + 300 < s.now - duration
  · rw [if_pos now]
  · obtain ⟨notHash, full⟩ : y ≠ .hash ∧ 18 ≤ st.syms.length := by tauto
    rw [if_neg now, if_neg notHash, if_neg (Nat.not_lt.2 full)]

theorem peerSymbol_ends (hash : y = .hash) (inTime : ¬ st.latestEnd + 300 < s.now - duration) :
    peerSymbol l y duration s = endStream l st s := by
  subst hash
  rw [peerSymbol, stream]
  dsimp only
  rw [if_neg (by simpa using inTime), if_pos rfl]

theorem peerSymbol_joins (notStar : y ≠ .star) (notD : y ≠ .d) (inTime : ¬ st.latestEnd + 300 < s.now - duration)
    (notHash : y ≠ .hash) (room : st.syms.length < 18) :
    peerSymbol l y duration s = setStream l (some ⟨st.syms ++ [y], s.now⟩) s := by
  rw [peerSymbol, stream]
  dsimp only
  rw [if_neg (by tauto), if_neg notHash, if_pos room]

end

/-! ### The heard table (R128) -/

/-- The entries that stay when a block of a key is entered: those of other keys, and of these the last 15. -/
def staying (key : HeardKey) (heard : List HeardEntry) : List HeardEntry :=
  let others := heard.filter fun e => decide (e.key ≠ key)
  others.drop (others.length - 15)

/-- The heard table with room for a block: a matching entry forgotten, or the oldest of 16. -/
def makeRoom (key : HeardKey) (s : State) : State :=
  if s.listener.heard.any fun e => e.key = key then forgetHeard key s
  else if s.listener.heard.length < 16 then s
  else match s.listener.heard.head? with
    | some oldest => forgetHeard oldest.key s
    | none => s

theorem enterHeard_eq (key : HeardKey) (s : State) :
    enterHeard key s = (makeRoom key s).setHeard fun es => es ++ [⟨key, s.clock, false, 0⟩] := rfl

theorem staying_of_mem {key : HeardKey} {heard : List HeardEntry} (few : heard.length ≤ 16) (mem : key ∈ heard.map (·.key)) :
    staying key heard = heard.filter fun e => decide (e.key ≠ key) := by
  obtain ⟨e, mem, same⟩ := List.mem_map.1 mem
  have fewer : (heard.filter fun e => decide (e.key ≠ key)).length < heard.length :=
    List.length_filter_lt_length_iff_exists.2 ⟨e, mem, by simpa using same⟩
  unfold staying
  dsimp only
  rw [Nat.sub_eq_zero_of_le (by omega), List.drop_zero]

theorem filter_key_ne {key : HeardKey} {heard : List HeardEntry} (absent : key ∉ heard.map (·.key)) :
    (heard.filter fun e => decide (e.key ≠ key)) = heard := by
  rw [List.filter_eq_self]
  intro e mem
  have ne : e.key ≠ key := fun eq => absent (eq ▸ List.mem_map_of_mem mem)
  simpa using ne

theorem staying_of_not_mem {key : HeardKey} {heard : List HeardEntry} (absent : key ∉ heard.map (·.key)) :
    staying key heard = heard.drop (heard.length - 15) := by
  unfold staying
  rw [filter_key_ne absent]

/-- Room is made by forgetting one entry, or there is room (R128). -/
theorem makeRoom_cases (key : HeardKey) (few : s.listener.heard.length ≤ 16) (distinct : (s.listener.heard.map (·.key)).Nodup) :
    (∃ gone, makeRoom key s = forgetHeard gone s ∧
        staying key s.listener.heard = s.listener.heard.filter fun e => decide (e.key ≠ gone)) ∨
      (makeRoom key s = s ∧ staying key s.listener.heard = s.listener.heard) := by
  unfold makeRoom
  split
  · rename_i matching
    exact .inl ⟨key, rfl, staying_of_mem few (by simpa using matching)⟩
  · rename_i unmatched
    have absent : key ∉ s.listener.heard.map (·.key) := by simpa using unmatched
    rw [staying_of_not_mem absent]
    split
    · exact .inr ⟨rfl, by rw [Nat.sub_eq_zero_of_le (by omega), List.drop_zero]⟩
    · rename_i full
      cases heard : s.listener.heard with
      | nil => simp [heard] at full
      | cons oldest rest =>
        rw [heard, List.map_cons, List.nodup_cons] at distinct
        rw [heard, List.length_cons] at full few
        have one : (oldest :: rest).length - 15 = 1 := by rw [List.length_cons]; omega
        refine .inl ⟨oldest.key, rfl, ?_⟩
        rw [one, List.filter_cons_of_neg (by simp), filter_key_ne distinct.1]
        rfl

theorem unnameAll_eq (key : HeardKey) (s : State) :
    unnameAll key s = { s with listener := { s.listener with decoders := s.listener.decoders.map (·.unname key) } } := by
  have four : allLines = [0, 1, 2, 3] := rfl
  have each : (unnameAll key s).listener.decoders = s.listener.decoders.map (·.unname key) := by
    ext i lt
    rw [unnameAll, four]
    interval_cases i <;> simp [State.setDecoder, State.decoder]
  rw [← each]
  rfl

theorem forgetHeard_eq (key : HeardKey) (s : State) :
    forgetHeard key s = { s with listener := { s.listener with
      heard := s.listener.heard.filter fun e => decide (e.key ≠ key)
      decoders := s.listener.decoders.map (·.unname key) } } := by
  rw [forgetHeard, unnameAll_eq]; rfl

/-- An awaited acknowledgement that names nothing from now on if its entry is not in a table (R128). -/
def Awaiting.keepNamed (heard : List HeardEntry) (a : Awaiting) : Awaiting :=
  match a.names with
  | some k => if k ∉ heard.map (·.key) then { a with names := none } else a
  | none => a

/-- A decoder whose awaited acknowledgement does so. -/
def Decoder.keepNamed (heard : List HeardEntry) (d : Decoder) : Decoder :=
  { d with awaiting := d.awaiting.map (·.keepNamed heard) }

theorem Awaiting.keepNamed_of_mem {a : Awaiting} {heard : List HeardEntry} (named : ∀ k, a.names = some k → k ∈ heard.map (·.key)) :
    a.keepNamed heard = a := by
  unfold Awaiting.keepNamed
  cases names : a.names with
  | none => rfl
  | some k => exact if_neg fun absent => absent (named k names)

/-- An entry forgotten is one not named any more. -/
theorem Decoder.unname_eq_keepNamed {d : Decoder} {heard : List HeardEntry} (gone : HeardKey)
    (named : ∀ a k, d.awaiting = some a → a.names = some k → k ∈ heard.map (·.key)) :
    d.unname gone = d.keepNamed (heard.filter fun e => decide (e.key ≠ gone)) := by
  unfold Decoder.unname Decoder.keepNamed
  congr 1
  refine Option.map_congr fun a is => ?_
  unfold Awaiting.keepNamed
  cases names : a.names with
  | none => simp
  | some k =>
    have leaves : k ∉ (heard.filter fun e => decide (e.key ≠ gone)).map (·.key) ↔ k = gone := by
      refine ⟨fun absent => ?_, ?_⟩
      · by_contra other
        obtain ⟨e, mem, rfl⟩ := List.mem_map.1 (named a k is names)
        exact absent (List.mem_map.2 ⟨e, List.mem_filter.2 ⟨mem, by simpa using other⟩, rfl⟩)
      · rintro rfl mem
        obtain ⟨e, mem, same⟩ := List.mem_map.1 mem
        simpa [same] using (List.mem_filter.1 mem).2
    dsimp only
    by_cases eq : k = gone
    · rw [if_pos (leaves.2 eq), if_pos (congrArg some eq)]
    · rw [if_neg fun absent => eq (leaves.1 absent), if_neg fun same => eq (Option.some.inj same)]

/-- With every name in the table nothing is unnamed. -/
theorem Decoder.keepNamed_self {d : Decoder} {heard : List HeardEntry}
    (named : ∀ a k, d.awaiting = some a → a.names = some k → k ∈ heard.map (·.key)) : d.keepNamed heard = d := by
  have same : d.awaiting.map (·.keepNamed heard) = d.awaiting := by
    cases is : d.awaiting with
    | none => rfl
    | some a => exact congrArg some (Awaiting.keepNamed_of_mem fun k => named a k is)
  unfold Decoder.keepNamed
  rw [same]

/-- Room made in the heard table: which entries stay, and which names go (R128). -/
theorem makeRoom_eq (key : HeardKey) (few : s.listener.heard.length ≤ 16) (distinct : (s.listener.heard.map (·.key)).Nodup)
    (named : ∀ m a k, (s.decoder m).awaiting = some a → a.names = some k → k ∈ s.listener.heard.map (·.key)) :
    makeRoom key s = { s with listener := { s.listener with
      heard := staying key s.listener.heard
      decoders := s.listener.decoders.map (·.keepNamed (staying key s.listener.heard)) } } := by
  have decoders (f : Decoder → Decoder) (same : ∀ m, f (s.decoder m) = (s.decoder m).keepNamed (staying key s.listener.heard)) :
      s.listener.decoders.map f = s.listener.decoders.map (·.keepNamed (staying key s.listener.heard)) := by
    ext1 i lt
    rw [Vector.getElem_map, Vector.getElem_map]
    exact same ⟨i, lt⟩
  obtain ⟨gone, room, stays⟩ | ⟨room, stays⟩ := makeRoom_cases key few distinct
  · rw [room, forgetHeard_eq, ← stays, decoders]
    exact fun m => stays ▸ Decoder.unname_eq_keepNamed gone (named m)
  · have unchanged := decoders id fun m => (by rw [stays]; exact (Decoder.keepNamed_self (named m)).symm)
    rw [room, ← unchanged, stays, Vector.map_id]

theorem key_not_mem_staying (key : HeardKey) (heard : List HeardEntry) : key ∉ (staying key heard).map (·.key) := by
  intro mem
  obtain ⟨e, mem, same⟩ := List.mem_map.1 mem
  simpa [same] using (List.mem_filter.1 (List.mem_of_mem_drop mem)).2

/-- With a block's entry in the table, the names that go are its own key and those that are not in the table (R128). -/
theorem Decoder.keepNamed_staying {key : HeardKey} {entry : HeardEntry} (its : entry.key = key) (d : Decoder)
    (heard : List HeardEntry) : d.keepNamed (staying key heard) =
      { d with awaiting := d.awaiting.map fun a =>
          match a.names with
          | some k =>
            if k = key ∨ k ∉ (staying key heard ++ [entry]).map (·.key) then { a with names := none } else a
          | none => a } := by
  unfold Decoder.keepNamed
  congr 2
  funext a
  unfold Awaiting.keepNamed
  cases a.names with
  | none => rfl
  | some k =>
    have leaves : k = key ∨ k ∉ (staying key heard ++ [entry]).map (·.key) ↔ k ∉ (staying key heard).map (·.key) := by
      have own := key_not_mem_staying key heard
      rw [List.map_append, List.mem_append, List.map_singleton, its, List.mem_singleton]
      by_cases eq : k = key
      · simp only [eq, true_or, true_iff]; exact own
      · simp only [eq, false_or, or_false]
    exact (if_congr leaves rfl rfl).symm

/-- A block is entered newest, and the names of what made room for it go (R128). -/
theorem decoder_enterHeard (key : HeardKey) (few : s.listener.heard.length ≤ 16) (distinct : (s.listener.heard.map (·.key)).Nodup)
    (named : ∀ m a k, (s.decoder m).awaiting = some a → a.names = some k → k ∈ s.listener.heard.map (·.key)) (m : LineNo) :
    (enterHeard key s).decoder m = (s.decoder m).keepNamed (staying key s.listener.heard) := by
  rw [enterHeard_eq, makeRoom_eq key few distinct named]
  exact Vector.getElem_map _ m.isLt

/-! ### A valid block (R127, R128, R131) -/

/-- Naming a class to a line leaves every awaited acknowledgement (R58). -/
theorem awaiting_setOccupant (l m : LineNo) (k : ReportClass) (s : State) :
    ((setOccupant l k s).decoder m).awaiting = (s.decoder m).awaiting := by
  unfold setOccupant
  split
  · split
    · rfl
    · exact (acts_accessOccupantNotice _ l).awaiting m
  · rfl

end

section
variable {s : State} {l : LineNo} {b : HeardBlock}

theorem takeBlock_foreign (foreign : b.account ≠ s.settings.account) :
    takeBlock l b s = awaitAck l none (setOccupant l b.cls s) := if_pos foreign

theorem takeBlock_clash (own : b.account = s.settings.account) (station : b.station = s.settings.station) :
    takeBlock l b s = stationClash (awaitAck l none (setOccupant l b.cls s)) :=
  (if_neg fun foreign => foreign own).trans (if_pos station)

theorem takeBlock_heard (own : b.account = s.settings.account) (peer : b.station ≠ s.settings.station) (cls : b.cls.rank ≤ 2)
    (qualifier : b.qualifier ≠ .status) :
    takeBlock l b s = awaitAck l (some ⟨b.station, b.cls, b.qualifier.kind, b.event, b.group⟩)
      (enterHeard ⟨b.station, b.cls, b.qualifier.kind, b.event, b.group⟩ (setOccupant l b.cls s)) :=
  ((if_neg fun foreign => foreign own).trans (if_neg peer)).trans (if_pos ⟨(rank_le_two_iff b.cls).2 cls, qualifier⟩)

theorem takeBlock_unheard (peer : b.station ≠ s.settings.station) (unheard : 2 < b.cls.rank ∨ b.qualifier = .status) :
    takeBlock l b s = awaitAck l none (setOccupant l b.cls s) := by
  have not : ¬ (coverable b.cls = true ∧ b.qualifier ≠ .status) := by
    rw [rank_le_two_iff]
    rintro ⟨low, other⟩
    exact unheard.elim (fun high => absurd low (Nat.not_le.2 high)) other
  by_cases own : b.account = s.settings.account
  · exact ((if_neg fun foreign => foreign own).trans (if_neg peer)).trans (if_neg not)
  · exact takeBlock_foreign own

end

end Sys2Proof.Machine

namespace Sys2Proof.Proofs
open Sys2Proof Sys2Proof.Machine

/-- Settles O47, by the symbols that a stream meets (`peerSymbol_breaks`, `peerSymbol_ends`, `peerSymbol_joins`). -/
theorem peerSymbols : Obligations.Peer_symbols := by
  refine ⟨takesOccupant_setOccupant, fun l y duration s => ?_⟩
  intro alone
  refine ⟨fun none => ?_, fun st stream => ?_⟩
  · rw [peerSymbol_of_none y duration none]
    exact peerSymbolAlone_eq l y duration s
  · intro late broken
    have discarded : discardStream l s = broken := discardStream_eq stream
    have now : (discardStream l s).now = s.now := (kept_discardStream s l).now
    have dEnded : ((discardStream l s).decoder l).dEnded = (s.decoder l).dEnded := by
      rw [decoder_discardStream, if_pos rfl]
    refine ⟨discarded, fun breaks => ?_, fun notStar notD inTime notHash room => ?_, fun hash inTime => ?_⟩
    · have taken := peerSymbolAlone_eq l y duration (discardStream l s)
      rw [now, dEnded, discarded] at taken
      rw [peerSymbol_breaks stream breaks, discarded]
      exact taken
    · exact peerSymbol_joins stream notStar notD inTime notHash room
    · rw [peerSymbol_ends stream hash inTime, endStream, discarded]
      cases judgeStream st.syms <;> rfl

/-- Settles O48, by the blocks case by case and what enters the heard table (`makeRoom_eq`). -/
theorem blockHeard : Obligations.Block_heard := by
  intro l b s sound t s1 own key nothingNamed
  obtain ⟨few, distinct, -, -, named⟩ := sound
  have kept : Kept s s1 := kept_setOccupant s l b.cls
  have unnamed : awaitAck l none s1 = nothingNamed := by unfold awaitAck; rw [kept.now]
  refine ⟨takesOccupant_setOccupant l b.cls s, fun unheard => ?_, fun isOwn station => ?_, fun isOwn peer cls qualifier => ?_⟩
  · rcases unheard with foreign | ⟨peer, unheard⟩
    · exact (takeBlock_foreign foreign).trans unnamed
    · exact (takeBlock_unheard peer unheard).trans unnamed
  · intro clash
    have known : nothingNamed.listener.clashEnd = s.listener.clashEnd := kept.clashEnd
    have clock : nothingNamed.clock = s.clock := kept.clock
    have taken : t = if s.listener.clashEnd.isSome then clash else tellTrouble .stationClash true clash := by
      have isClash : t = stationClash nothingNamed := unnamed ▸ takeBlock_clash isOwn station
      rw [isClash, stationClash, known, clock]
    have awaits : (clash.decoder l).awaiting = some ⟨s.now + 1500, none⟩ := by
      show ((s1.setDecoder l fun d => { d with awaiting := some ⟨s.now + 1500, none⟩ }).decoder l).awaiting = _
      rw [State.decoder_setDecoder]
    refine ⟨taken, ?_, fun none => ?_⟩
    · by_cases active : s.listener.clashEnd.isSome = true
      · rw [taken, if_pos active, awaits]
      · rw [taken, if_neg active, (acts_tellTrouble clash .stationClash true).awaiting, awaits]
    · rw [taken, if_neg (by simp [none])]
      exact (active_tellTrouble clash _ _ _ (by simp)).trans (if_pos rfl)
  · have heard : s1.listener.heard = s.listener.heard := kept.heard
    have named' (m : LineNo) (a : Awaiting) (k : HeardKey) (is : (s1.decoder m).awaiting = some a) (names : a.names = some k) :
        k ∈ s1.listener.heard.map (·.key) := by
      rw [heard]; exact named m a k (awaiting_setOccupant l m b.cls s ▸ is) names
    have few' : s1.listener.heard.length ≤ 16 := heard ▸ few
    have distinct' : (s1.listener.heard.map (·.key)).Nodup := heard ▸ distinct
    have entered : enterHeard key s1 = { s1 with listener := { s1.listener with
        heard := staying key s.listener.heard ++ [⟨key, s.clock, false, 0⟩]
        decoders := s1.listener.decoders.map (·.keepNamed (staying key s.listener.heard)) } } := by
      rw [enterHeard_eq, makeRoom_eq key few' distinct' named', heard, ← kept.clock]
      rfl
    have taken : t = awaitAck l (some key) (enterHeard key s1) := takeBlock_heard isOwn peer cls qualifier
    have table : t.listener.heard = staying key s.listener.heard ++ [⟨key, s.clock, false, 0⟩] := by rw [taken, entered]; rfl
    refine ⟨?_, table, fun m other => ?_, ?_, ?_, ?_, ?_⟩
    · rw [taken, awaitAck, State.decoder_setDecoder, entered, ← kept.now]
    · have decoder : t.decoder m = (s1.decoder m).keepNamed (staying key s.listener.heard) := by
        rw [taken, awaitAck, State.decoder_setDecoder_ne _ _ _ _ other, decoder_enterHeard key few' distinct' named' m, heard]
      rw [decoder, table]
      exact Decoder.keepNamed_staying (key := key) (entry := ⟨key, s.clock, false, 0⟩) rfl (s1.decoder m) s.listener.heard
    all_goals rw [taken, entered]; rfl

end Sys2Proof.Proofs
end

section
/-! The hold-off, the preemption test with its preempt seize, and the yield demands (R74 to R79, R81, R88 to R90). -/

namespace Sys2Proof.Machine

section
variable {s : State} {l : LineNo}

/-! ### Where a hold-off comes from (R76, R81) -/

/-- In AC_HOLDOFF, the hold-off is the head's own. -/
def HoldoffOf (s : State) (r : Report) (a : AccessState) : Prop :=
  ∀ t0 l h base deadline, a = .holdoff t0 l h base deadline → h = holdoffTime s r

theorem HoldoffOf.holdoff {r : Report} {t0 base deadline : Nat} : HoldoffOf s r (.holdoff t0 l (holdoffTime s r) base deadline) := by
  rintro _ _ _ _ _ ⟨⟩; rfl

theorem HoldoffOf.check {r : Report} {t0 : Nat} : HoldoffOf s r (.check t0 l) := by rintro _ _ _ _ _ ⟨⟩

theorem HoldoffOf.wait {r : Report} {t0 since : Nat} {waited : Bool} : HoldoffOf s r (.wait t0 since waited) := by
  rintro _ _ _ _ _ ⟨⟩

section
variable {r : Report} (head : s.headReport = some r)
include head

/-- A choice computes the hold-off from the head, or leaves no hold-off (R74, R76). -/
theorem holdoffOf_chooseLine (t0 : Nat) : HoldoffOf s r (chooseLine t0 s).access.state := by
  cases first : firstIdle s r.matter.cls with
  | none => rw [chooseLine_of_none head t0 first]; exact .wait
  | some l =>
    rw [chooseLine_of_some head t0 first]
    split
    · exact .check
    · rw [awaitLine_of_some head t0 first]; exact .holdoff

/-- A head change in AC_HOLDOFF computes the hold-off anew for the line kept, or by a new choice (R76, R81). -/
theorem holdoffOf_accessHeadChange {t0 h base deadline : Nat} (access : s.access.state = .holdoff t0 l h base deadline) :
    HoldoffOf s r (accessHeadChange s).access.state := by
  rw [accessHeadChange_holdoff head access]
  split
  · rw [seizeIfDue, State.setAccess_state]
    dsimp only
    split
    · rw [seizeChosen, State.setAccess_state]
      dsimp only
      split
      · exact .check
      · rw [chooseLine_setAccess]; exact holdoffOf_chooseLine head t0
    · exact .holdoff
  · exact holdoffOf_chooseLine head t0

end

/-! ### The preferred candidate (R89) -/

theorem isCandidate_iff {k : ReportClass} : isCandidate s k l = true ↔ Candidate s k l := by
  unfold isCandidate Candidate
  cases (s.line l).occupant <;> simp [permits_iff, and_assoc]

theorem mem_candidates {k : ReportClass} : l ∈ allLines.filter (isCandidate s k) ↔ Candidate s k l := by
  simp [allLines, isCandidate_iff]

/-- The preferred candidate is the first candidate of greatest preference. -/
theorem preferredCandidate_eq_argmax (k : ReportClass) :
    preferredCandidate s k = (allLines.filter (isCandidate s k)).argmax fun l => preference (s.line l) := by
  unfold preferredCandidate List.argmax
  congr 1
  funext best l
  cases best <;> rfl

/-- In a list in order, what comes no later is no greater. -/
theorem le_of_idxOf_le {lines : List LineNo} (sorted : lines.SortedLT) {m : LineNo} (hl : l ∈ lines) (hm : m ∈ lines)
    (le : lines.idxOf l ≤ lines.idxOf m) : l ≤ m := by
  have mono := sorted.strictMono_get.monotone
    (show (⟨lines.idxOf l, List.idxOf_lt_length_of_mem hl⟩ : Fin lines.length) ≤ ⟨_, List.idxOf_lt_length_of_mem hm⟩ from le)
  simpa using mono

theorem preferredCandidate_eq_none {k : ReportClass} (none : preferredCandidate s k = none) : ¬ Candidate s k l := by
  rw [preferredCandidate_eq_argmax, List.argmax_eq_none] at none
  rw [← mem_candidates, none]
  exact List.not_mem_nil

/-- No candidate is preferred to the preferred one, and none alike has a lower number (R89). -/
theorem preferredCandidate_spec {k : ReportClass} (preferred : preferredCandidate s k = some l) :
    Candidate s k l ∧ ∀ m, Candidate s k m →
      preference (s.line m) < preference (s.line l) ∨ (preference (s.line m) = preference (s.line l) ∧ l ≤ m) := by
  rw [preferredCandidate_eq_argmax, List.argmax_eq_some_iff] at preferred
  obtain ⟨mem, greatest, first⟩ := preferred
  have sorted : (allLines.filter (isCandidate s k)).SortedLT := ((List.sortedLT_finRange 4).pairwise.filter _).sortedLT
  refine ⟨mem_candidates.1 mem, fun m candidate => ?_⟩
  have mem' := mem_candidates.2 candidate
  obtain less | alike := (greatest m mem').lt_or_eq
  · exact .inl less
  · exact .inr ⟨alike, le_of_idxOf_le sorted mem mem' (first m mem' alike.ge)⟩

/-! ### Tones of the access controller (R68, R90) -/

/-- With no tone sounding, a request on a held line sounds at once. -/
theorem requestTone_silent (held : (s.line l).state = .held) (silent : s.tone.sounding = none) (y : Sym) (d : Nat) :
    requestTone l y d s = startTone ⟨l, y, d⟩ s := by
  rw [requestTone, if_pos held, silent]

/-- A receiver that has just begun anew has nothing in hand to forget (R67, R68). -/
theorem startTone_nothing_heard {r : ToneRequest} (handshake : (s.line r.line).handshakeHeard = false)
    (ack : (s.line r.line).ackHeard = false) :
    startTone r s = { s with tone := { s.tone with sounding := some (r, s.now + r.duration) } } := by
  have same (ln : Line) (handshake : ln.handshakeHeard = false) (ack : ln.ackHeard = false) :
      { ln with handshakeHeard := false, ackHeard := false } = ln := by cases ln; cases handshake; cases ack; rfl
  rw [startTone, State.setLine_same s _ _ (same _ handshake ack)]

/-! ### The preempt seize (R59, R79, R90) -/

theorem preemptSeizeAccepted_iff : preemptSeizeAccepted l s = true ↔ (s.line l).state = .occupied ∧ OthersFree s l := by
  simp [preemptSeizeAccepted, otherTaken_eq_false_iff]

/-- The preempt record of the first demand, begun now by a head of a class (R90). -/
def firstDemand (s : State) (l : LineNo) (k : ReportClass) : PreemptRecord :=
  { occupant := (s.line l).occupant, phase := .demanding, demands := 1, soleSince := none
    responseEnd := s.now + 4000, digit := k, gapEnd := none, nextDemand := none }

theorem preemptSeize_refused (taken : ¬ OthersFree s l) (t0 : Nat) (k : ReportClass) : preemptSeize t0 l k s = chooseLine t0 s :=
  if_neg fun accepted => taken (preemptSeizeAccepted_iff.1 accepted).2

/-- A demand that begins on a held line with nothing heard changes the tone output and the access state alone. -/
theorem beginDemand_nothing_heard (held : (s.line l).state = .held) (handshake : (s.line l).handshakeHeard = false)
    (ack : (s.line l).ackHeard = false) (silent : s.tone.sounding = none) (t0 : Nat) (rec : PreemptRecord) (k : ReportClass) :
    beginDemand t0 l rec k s =
      { s with
        tone := { s.tone with sounding := some (⟨l, .d, 600⟩, s.now + 600) }
        access := ⟨.preempt t0 l { rec with
          demands := saturatingSucc 3 rec.demands, responseEnd := s.now + 4000, digit := k, gapEnd := none, nextDemand := none },
          s.access.cursor⟩ } := by
  rw [beginDemand, requestTone_silent held silent, startTone_nothing_heard handshake ack]
  rfl

/-- An accepted preempt seize: the line is HELD without a check window and the first demand's D sounds on it. -/
theorem preemptSeize_accepted (occupied : (s.line l).state = .occupied) (others : OthersFree s l) (silent : s.tone.sounding = none)
    (t0 : Nat) (k : ReportClass) :
    let t := preemptSeize t0 l k s
    SeizedLine false l s t ∧ OnlyAccess s t ∧ t.tone.sounding = some (⟨l, .d, 600⟩, s.now + 600)
      ∧ t.access = ⟨.preempt t0 l (firstDemand s l k), l + 1⟩ := by
  let u := moveCursor l (seizeLine false l s)
  have seized : SeizedLine false l s u := seizedLine_seizeLine false (by simp [occupied])
  have now : u.now = s.now := (calm_seizeLine s false l).kept.now
  have tone : u.tone = s.tone := tone_seizeLine false l s
  have line := seized.1
  have begun : preemptSeize t0 l k s = beginDemand t0 l { firstDemand s l k with demands := 0, responseEnd := s.now } k u :=
    if_pos (preemptSeizeAccepted_iff.2 ⟨occupied, others⟩)
  rw [beginDemand_nothing_heard (by rw [line]) (by rw [line]) (by rw [line]) (by rw [tone, silent]), now] at begun
  exact ⟨by rw [begun]; exact seized, (calm_preemptSeize s t0 l k).onlyAccess, congrArg (·.tone.sounding) begun,
    congrArg (·.access) begun⟩

/-! ### The preemption test (R78, R88) -/

section
variable {t0 since : Nat} {waited : Bool} (access : s.access.state = .wait t0 since waited)
include access

/-- With no head, a head of a lower class or no candidate, the wait goes on. -/
theorem preemptionTest_waits
    (none : ∀ r, s.headReport = some r → 2 ≤ r.matter.cls.rank ∨ preferredCandidate s r.matter.cls = none) :
    preemptionTest s = s := by
  rw [preemptionTest, access]
  cases head : s.headReport with
  | none => rfl
  | some r =>
    dsimp only
    obtain low | noCandidate := none r head
    · exact if_neg fun ready => absurd ready.1 (Nat.not_le.2 low)
    · rw [noCandidate]; exact ite_self _

theorem preemptionTest_seizes {r : Report} (head : s.headReport = some r) (high : r.matter.cls.rank ≤ 1) (due : since + 2000 ≤ s.now)
    (preferred : preferredCandidate s r.matter.cls = some l) : preemptionTest s = preemptSeize t0 l r.matter.cls s := by
  rw [preemptionTest, access, head]
  dsimp only
  rw [if_pos ⟨high, due⟩, preferred]

end

theorem exec_preemptWaitExpiry {t0 since : Nat} (running : s.running = true) (access : s.access.state = .wait t0 since false)
    (due : since + 2000 ≤ s.now) :
    exec .preemptWaitExpiry s = .next (preemptionTest (s.setAccess (.wait t0 since true))) := by
  have isDue : preemptWaitDue s = true := by simp [preemptWaitDue, access, running, due]
  have effect : exec .preemptWaitExpiry s = .next (expirePreemptWait s) := whenDue_true isDue
  rw [effect, expirePreemptWait, access]

theorem laterPreemptionTest_before {t0 since : Nat} (access : s.access.state = .wait t0 since false) : laterPreemptionTest s = s := by
  rw [laterPreemptionTest, access]

theorem laterPreemptionTest_after {t0 since : Nat} (access : s.access.state = .wait t0 since true) :
    laterPreemptionTest s = preemptionTest s := by rw [laterPreemptionTest, access]

/-! ### Yield demands (R90) -/

section
variable {t0 : Nat} {rec : PreemptRecord} (running : s.running = true) (access : s.access.state = .preempt t0 l rec)
  (phase : rec.phase = .demanding)
include running access phase

theorem exec_yieldDemandGapEnd {g : Nat} (gap : rec.gapEnd = some g) (due : g ≤ s.now) :
    exec .yieldDemandGapEnd s =
      .next ((requestTone l (digitSym rec.digit.rank) 200 s).setAccess (.preempt t0 l { rec with gapEnd := none })) := by
  have isDue : yieldGapDue s = true := demandingDue_of running access phase gap due
  have effect : exec .yieldDemandGapEnd s = .next (sendClassDigit s) := whenDue_true isDue
  rw [effect, sendClassDigit, access]

theorem exec_yieldDemandRepeat {r : Report} {g : Nat} (head : s.headReport = some r) (next : rec.nextDemand = some g)
    (due : g ≤ s.now) : exec .yieldDemandRepeat s = .next (beginDemand t0 l rec r.matter.cls s) := by
  have isDue : yieldRepeatDue s = true := by
    rw [yieldRepeatDue, demandingDue_of running access phase next due, head]; rfl
  have effect : exec .yieldDemandRepeat s = .next (repeatDemand s) := whenDue_true isDue
  rw [effect, repeatDemand, access, head]

end

end

end Sys2Proof.Machine

namespace Sys2Proof.Proofs
open Sys2Proof Sys2Proof.Machine

/-- Settles O24, by where a hold-off comes from (`HoldoffOf`) and the ranges of the formula's terms. -/
theorem holdoffFormula : Obligations.Holdoff_formula := by
  refine ⟨fun s r head => ⟨fun t0 => holdoffOf_chooseLine head t0, fun t0 l h base deadline t1 m h' base' deadline' access =>
    holdoffOf_accessHeadChange head access t1 m h' base' deadline'⟩, fun s r => ?_⟩
  intro d k b
  have base : classBase r.matter.cls = b := by cases cls : r.matter.cls <;> simp [b, cls, classBase, ReportClass.rank]
  have formula : holdoffTime s r = b + 40 * k + 500 * min r.contention 6 := by rw [← base]; rfl
  have stride : d ≤ 31 := by omega
  have slot : k ≤ 31 := by omega
  have few : b ≤ 1200 := by rw [← base]; cases r.matter.cls <;> decide
  exact ⟨formula, Nat.le_add_right 1 _, stride, slot, by omega⟩

/-- Settles O26, by the first candidate of greatest preference (`preferredCandidate_spec`), the test's two outcomes, and the preempt
seize accepted (`preemptSeize_accepted`) or refused. -/
theorem preemptionBegins : Obligations.Preemption_begins := by
  refine ⟨fun s k => ?_, fun s t0 since running access due => ?_, fun s t0 since => ⟨laterPreemptionTest_before, ?_⟩⟩
  · cases preferred : preferredCandidate s k with
    | none => exact fun l => preferredCandidate_eq_none preferred
    | some l => exact preferredCandidate_spec preferred
  · let past := s.setAccess (.wait t0 since true)
    rw [exec_preemptWaitExpiry running access due]
    refine ⟨fun none => ?_, fun r l head high preferred => ?_⟩
    · rw [preemptionTest_waits (State.setAccess_state s _) none]
      rfl
    · rw [preemptionTest_seizes (State.setAccess_state s _) head high due preferred]
      obtain ⟨⟨-, occupied, -, -⟩, -⟩ := preferredCandidate_spec preferred
      refine ⟨fun taken => ?_, fun others silent => ⟨_, rfl,
        preemptSeize_accepted (s := past) occupied others silent t0 r.matter.cls⟩⟩
      rw [preemptSeize_refused (s := past) taken, chooseLine_setAccess]
  · intro running access due
    have same : s.setAccess (.wait t0 since true) = s := by rw [← access]; rfl
    rw [laterPreemptionTest_after access]
    exact (exec_preemptWaitExpiry (s := s.setAccess (.wait t0 since false)) running rfl due).trans
      (congrArg (Host.Outcome.next <| preemptionTest ·) same)

/-- Settles O27: with the tone output silent, each tone request of a demand sounds at once. -/
theorem demandGoesOn : Obligations.Demand_goes_on := by
  intro s t0 l rec running access phase held silent
  refine ⟨fun ⟨g, gap, due⟩ => ?_, fun r g head next due => ?_⟩
  · rw [exec_yieldDemandGapEnd running access phase gap due, requestTone_silent held silent]
    exact ⟨_, rfl, ((calm_startTone s _).trans (calm_setAccess _ _)).onlyAccess, rfl, rfl, rfl⟩
  · rw [exec_yieldDemandRepeat running access phase head next due, beginDemand, requestTone_silent held silent]
    exact ⟨_, rfl, ((calm_startTone s _).trans (calm_setAccess _ _)).onlyAccess, rfl, rfl, rfl⟩

end Sys2Proof.Proofs
end

section
/-! The call engine's own events: what each due one does, the tones of a call on its silent line, and the ends of a call at its
deadlines (R100 to R103, R106, R107, R113). -/

namespace Sys2Proof.Machine

section
variable {s : State} {l : LineNo} {d : Nat}

/-! ### When an event is due -/

theorem reached_of_set {due : Option Nat} {now : Nat} (set : due = some d) (past : d ≤ now) : reached due now = true := by
  rw [set]; exact decide_eq_true past

theorem reached_iff {due : Option Nat} {now : Nat} : reached due now = true ↔ ∃ d, due = some d ∧ d ≤ now := by
  unfold reached
  cases due <;> simp

theorem exec_dialDeadline (running : s.running = true) (works : s.call.working = .dialtoneWait)
    (deadline : s.call.dialDeadline = some d) (past : d ≤ s.now) : exec .dialDeadline s = .next (endCall .noDialTone s) := by
  have due : dialDeadlineDue s = true := by simp [dialDeadlineDue, running, works, reached_of_set deadline past]
  exact whenDue_true due

theorem exec_handshakeDeadline (running : s.running = true) (works : s.call.working = .awaitHandshake)
    (deadline : s.call.handshakeDeadline = some d) (past : d ≤ s.now) :
    exec .handshakeDeadline s = .next (endCall .noAnswer s) := by
  have due : handshakeDeadlineDue s = true := by simp [handshakeDeadlineDue, running, works, reached_of_set deadline past]
  exact whenDue_true due

theorem exec_ackDeadline (running : s.running = true) (works : s.call.working = .awaitAck)
    (deadline : s.call.ackDeadline = some d) (past : d ≤ s.now) : exec .ackDeadline s = .next (expireAck s) := by
  have due : ackDeadlineDue s = true := by simp [ackDeadlineDue, running, works, reached_of_set deadline past]
  exact whenDue_true due

theorem exec_dialGapEnd (running : s.running = true) (dialling : s.call.state = .dialling) (gap : s.call.gapEnd = some d)
    (past : d ≤ s.now) : exec .dialGapEnd s = .next (endDialGap s) := by
  have due : dialGapDue s = true := by simp [dialGapDue, running, dialling, reached_of_set gap past]
  exact whenDue_true due

theorem exec_leadInDue (running : s.running = true) (waits : s.call.state = .awaitHandshake ∨ s.call.state = .awaitAck)
    (leadIn : s.call.leadIn = some d) (past : d ≤ s.now) : exec .leadInDue s = .next (beginBlock s) := by
  have due : leadInIsDue s = true := by simp [leadInIsDue, running, waits, reached_of_set leadIn past]
  exact whenDue_true due

theorem exec_blockSymbolGapEnd (running : s.running = true) (sending : s.call.state = .sendingBlock)
    (gap : s.call.gapEnd = some d) (past : d ≤ s.now) : exec .blockSymbolGapEnd s = .next (sendSymbol s) := by
  have due : blockGapDue s = true := by simp [blockGapDue, running, sending, reached_of_set gap past]
  exact whenDue_true due

theorem exec_pauseEnd {p : PauseRecord} (running : s.running = true) (paused : s.call.state = .paused)
    (pause : s.call.pause = some p) (past : p.pauseEnd ≤ s.now) : exec .pauseEnd s = .next (endPause s) := by
  have due : pauseEndDue s = true := by simp [pauseEndDue, running, paused, pause, reached_of_set rfl past]
  exact whenDue_true due

/-! ### Tones of a call (R68, R101, R103) -/

/-- With the tone output silent, a tone of the call sounds at once on its held line. -/
theorem callTone_silent (mine : s.call.line = some l) (held : (s.line l).state = .held) (silent : s.tone.sounding = none)
    (y : Sym) (time : Nat) : callTone y time s = startTone ⟨l, y, time⟩ s := by
  rw [callTone, mine]
  exact requestTone_silent held silent y time

/-- A tone of a call that begins on a line: the call context and the tone output are set, and the line's receiver forgets a HANDSHAKE
or ACK in progress. -/
def sounds (l : LineNo) (y : Sym) (time : Nat) (c : Call) (s : State) : State :=
  { s.setLine l (fun ln => { ln with handshakeHeard := false, ackHeard := false }) with
    call := c, tone := ⟨some (⟨l, y, time⟩, s.now + time), s.tone.waiting⟩ }

theorem callTone_setCall (f : Call → Call) (mine : (f s.call).line = some l) (held : (s.line l).state = .held)
    (silent : s.tone.sounding = none) (y : Sym) (time : Nat) :
    callTone y time (s.setCall f) = sounds l y time (f s.call) s :=
  callTone_silent (s := s.setCall f) mine held silent y time

/-! ### Blocks (R102, R103, R106, R107) -/

/-- The call at the opening * of the block of its first batch entry. -/
def Call.begun (c : Call) : Call :=
  { c with
    state := .sendingBlock, inFlight := true, position := 1, gapEnd := none, leadIn := none, ackDeadline := none
    ackEndAwaited := false, resendDue := false }

section
variable {e : BatchEntry} {rest : List BatchEntry} {r : Report} (batch : s.call.batch = e :: rest)
  (here : s.report e.seq = some r)
include batch

theorem countSend_eq : countSend s.call.batch = { e with sends := min (e.sends + 1) 4 } :: rest := by rw [batch]; rfl

/-- An ACK deadline with fewer than four sends: the block begins again, in a pause at its end (R106, R113). -/
theorem expireAck_resends (few : e.sends < 4) :
    expireAck s =
      if s.call.state = .paused then
        s.setCall fun c => { c with ackDeadline := none, ackExpired := some s.now, resendDue := true }
      else beginBlock (s.setCall fun c => { c with ackDeadline := none, ackExpired := some s.now }) := by
  rw [expireAck, batch]
  exact if_pos few

theorem expireAck_ends (four : 4 ≤ e.sends) : expireAck s = endCall .noAck s := by
  rw [expireAck, batch]
  exact if_neg (Nat.not_lt.2 four)

include here

theorem flightSyms_eq : s.flightSyms = blockSyms s.settings r.matter := by
  simp only [State.flightSyms, batch, List.head?_cons, here]

variable (mine : s.call.line = some l) (held : (s.line l).state = .held) (silent : s.tone.sounding = none)
include mine held silent

/-- The block's next symbol sounds, and past the closing # its ACK is awaited (R103, R106). -/
theorem sendSymbol_eq :
    sendSymbol s = match (blockSyms s.settings r.matter)[s.call.position]? with
      | some y => sounds l y 60 { s.call with position := s.call.position + 1, gapEnd := none } s
      | none => s.setCall fun c =>
          { c with
            state := .awaitAck, gapEnd := none, batch := { e with sends := min (e.sends + 1) 4 } :: rest
            ackDeadline := some (s.now + 1500) } := by
  rw [sendSymbol, flightSyms_eq batch here]
  cases (blockSyms s.settings r.matter)[s.call.position]? with
  | some y => exact callTone_setCall _ mine held silent y 60
  | none => exact s.setCall_congr _ _ (by rw [countSend_eq batch])

theorem beginBlock_eq : beginBlock s = sounds l .star 60 s.call.begun s := by
  let atStart := s.setCall fun c =>
    { c with
      state := .sendingBlock, inFlight := true, position := 0, gapEnd := none
      leadIn := none, ackDeadline := none, ackEndAwaited := false, resendDue := false }
  exact sendSymbol_eq (s := atStart) batch here mine held silent

end

/-! ### Dialling (R101) -/

/-- The symbol of the destination at the call's position is sounded, waited out, or past the last one. -/
theorem dialSymbol_eq (mine : s.call.line = some l) (held : (s.line l).state = .held) (silent : s.tone.sounding = none) :
    dialSymbol s = match s.dialSyms[s.call.position]? with
      | some (.digit d) =>
        sounds l (.digit d) 80 { s.call with position := s.call.position + 1, gapEnd := none, inPauseMark := false } s
      | some .pause => s.setCall fun c => { c with gapEnd := some (s.now + 2000), inPauseMark := true }
      | none => s.setCall fun c =>
          { c with
            state := .awaitHandshake, gapEnd := none, inPauseMark := false
            handshakeDeadline := some (s.now + 40000), progress := .none } := by
  unfold dialSymbol
  cases s.dialSyms[s.call.position]? with
  | none => rfl
  | some next =>
    cases next with
    | digit k => exact callTone_setCall _ mine held silent (.digit k) 80
    | pause => rfl

/-- What stood of a gap or a pause mark is forgotten at the next symbol. -/
theorem dialSymbol_forgets (gap : Option Nat) (mark : Bool) :
    dialSymbol (s.setCall fun c => { c with gapEnd := gap, inPauseMark := mark }) = dialSymbol s := rfl

/-- The call with its position past a pause mark that has been waited out (R101). -/
def State.pastMark (s : State) : State :=
  s.setCall fun c => { c with position := if c.inPauseMark then c.position + 1 else c.position }

theorem endDialGap_eq : endDialGap s = dialSymbol s.pastMark := by
  let atPosition (n : Nat) : State := s.setCall fun c => { c with position := n }
  unfold endDialGap
  split
  · rename_i mark
    exact (dialSymbol_forgets (s := atPosition (s.call.position + 1)) none false).trans
      (congrArg (fun n => dialSymbol (atPosition n)) (if_pos mark).symm)
  · rename_i mark
    exact congrArg (fun n => dialSymbol (atPosition n)) (if_neg mark).symm

end

end Sys2Proof.Machine

namespace Sys2Proof.Proofs
open Sys2Proof Sys2Proof.Machine

/-- Settles O43: each deadline runs in the state a call works in (`working_eq_iff`), a pause's too. -/
theorem callDeadlinesEndTheCall : Obligations.Call_deadlines_end_the_call := by
  intro s d running past working
  have works {st : CallState} (ne : st ≠ .paused) (is : working st) : s.call.working = st :=
    (working_eq_iff ne).2 (is.imp_left fun state => ⟨state, ne⟩)
  refine ⟨fun is deadline => exec_dialDeadline running (works (by decide) is) deadline past,
    fun is deadline => exec_handshakeDeadline running (works (by decide) is) deadline past,
    fun e rest is deadline batch four => ?_⟩
  rw [exec_ackDeadline running (works (by decide) is) deadline past, expireAck_ends batch four]

/-- Settles O40: a block begins at its opening * (`beginBlock_eq`), and each gap's end sends the next symbol or ends it
(`sendSymbol_eq`). -/
theorem blockIsSent : Obligations.Block_is_sent := by
  intro s l e rest r running batch here mine held silent
  refine ⟨fun d waits leadIn past => ?_, fun g sending gap past => ?_, fun d awaiting deadline past few => ?_,
    fun d p paused pause from_ deadline past few => ?_⟩
  · rw [exec_leadInDue running waits leadIn past, beginBlock_eq batch here mine held silent]
    rfl
  · rw [exec_blockSymbolGapEnd running sending gap past, sendSymbol_eq batch here mine held silent]
    rfl
  · have works : s.call.working = .awaitAck := (working_eq_iff (by decide)).2 (.inl ⟨awaiting, by decide⟩)
    rw [exec_ackDeadline running works deadline past, expireAck_resends batch few, if_neg (by simp [awaiting])]
    exact congrArg Host.Outcome.next (beginBlock_eq (s := s.setCall _) batch here mine held silent)
  · have works : s.call.working = .awaitAck := (working_eq_iff (by decide)).2 (.inr ⟨paused, p, pause, from_⟩)
    rw [exec_ackDeadline running works deadline past, expireAck_resends batch few, if_pos paused]

/-- Settles O39: the position moves past a pause mark waited out, and `dialSymbol_eq` tells what stands there. -/
theorem diallingGoesOn : Obligations.Dialling_goes_on := by
  intro s l g running dialling gap past mine held silent syms pos
  rw [exec_dialGapEnd running dialling gap past, endDialGap_eq, dialSymbol_eq (s := s.pastMark) mine held silent]
  rfl

end Sys2Proof.Proofs
end

section
/-! The symbols of a block and its check, and how a peer reads them back (R103, R104, R124). -/

namespace Sys2Proof.Machine

/-! ### Digits with leading zeros -/

/-- The digits of a number to a width, by the power of ten of each place. -/
theorem paddedDigits_eq (w n : Nat) : paddedDigits w n = (List.range w).map fun i => n / 10 ^ (w - 1 - i) % 10 := by
  induction w generalizing n with
  | zero => rfl
  | succ w ih =>
    rw [paddedDigits, ih, List.range_succ, List.map_append, List.map_singleton, Nat.add_sub_cancel, Nat.sub_self, pow_zero,
      Nat.div_one]
    congr 1
    refine List.map_congr_left fun i below => ?_
    have place : w - i = w - 1 - i + 1 := by have := List.mem_range.1 below; omega
    rw [place, pow_succ', Nat.div_div_eq_div_mul]

theorem length_paddedDigits (w n : Nat) : (paddedDigits w n).length = w := by simp [paddedDigits_eq]

theorem paddedDigits_le_nine {w n v : Nat} (mem : v ∈ paddedDigits w n) : v ≤ 9 := by
  rw [paddedDigits_eq] at mem
  obtain ⟨i, -, rfl⟩ := List.mem_map.1 mem
  omega

/-- Read together, the digits of a number that has the width give the number back. -/
theorem numberOf_paddedDigits {w n : Nat} (fits : n < 10 ^ w) : numberOf (paddedDigits w n) = n := by
  induction w generalizing n with
  | zero => simp at fits; simp [fits, paddedDigits, numberOf]
  | succ w ih =>
    have tens : n / 10 < 10 ^ w := by rw [pow_succ] at fits; omega
    have before := ih tens
    rw [numberOf] at before ⊢
    rw [paddedDigits, List.foldl_append, before, List.foldl_cons, List.foldl_nil]
    omega

/-! ### Digits as symbols -/

theorem digitsOf_map_digitSym {info : List Nat} (digits : ∀ v ∈ info, v ≤ 9) : digitsOf (info.map digitSym) = some info := by
  induction info with
  | nil => rfl
  | cons v info ih =>
    rw [List.forall_mem_cons] at digits
    have value : (digitSym v).digit? = some v := congrArg some (Nat.mod_eq_of_lt (by omega))
    rw [List.map_cons, digitsOf, value, ih digits.2]

/-- What reads as digits is the symbols of those digits. -/
theorem of_digitsOf {syms : List Sym} {info : List Nat} (read : digitsOf syms = some info) :
    syms = info.map digitSym ∧ ∀ v ∈ info, v ≤ 9 := by
  induction syms generalizing info with
  | nil => cases read; simp
  | cons y syms ih =>
    rw [digitsOf] at read
    split at read
    · rename_i d ds value rest
      cases read
      obtain ⟨same, digits⟩ := ih rest
      cases y with
      | digit k =>
        cases value
        refine ⟨?_, List.forall_mem_cons.2 ⟨by omega, digits⟩⟩
        rw [List.map_cons, ← same, digitSym, Fin.ofNat_val_eq_self]
      | _ => cases value
    · cases read

/-! ### The check (R104) -/

/-- The sum of i times the i-th digit, from a first weight on. -/
theorem weightedSum_eq (i : Nat) (info : List Nat) :
    weightedSum i info = ((List.range info.length).map fun j => (i + j) * info.getD j 0).sum := by
  induction info generalizing i with
  | nil => rfl
  | cons v info ih =>
    rw [weightedSum, ih, List.length_cons, List.range_succ_eq_map, List.map_cons, List.sum_cons, List.map_map]
    congr 2
    refine List.map_congr_left fun j _ => ?_
    simp [Nat.add_assoc, Nat.add_comm 1 j]

/-- The check symbol by the remainder of the sum. -/
theorem checkSym_eq (info : List Nat) :
    checkSym info = if weightedSum 1 info % 13 = 10 then .a else if weightedSum 1 info % 13 = 11 then .b
      else if weightedSum 1 info % 13 = 12 then .c else digitSym (weightedSum 1 info % 13) := by
  unfold checkSym
  split <;> simp_all

/-! ### The information digits (R103, section 10.2) -/

theorem rank_le_nine (c : ReportClass) : c.rank ≤ 9 := by cases c <;> decide

theorem code_le_nine (q : Qualifier) : q.code ≤ 9 := by cases q <;> decide

theorem length_blockInfo (set : Settings) (m : Matter) : (blockInfo set m).length = if m.value.isSome then 17 else 13 := by
  unfold blockInfo
  cases m.value <;> rfl

theorem blockInfo_le_nine (set : Settings) (m : Matter) : ∀ v ∈ blockInfo set m, v ≤ 9 := by
  have value : ∀ v ∈ (match m.value with | some v => paddedDigits 4 v | none => []), v ≤ 9 := by
    cases m.value with
    | none => simp
    | some n => exact fun v => paddedDigits_le_nine
  simp only [blockInfo, List.mem_append, List.mem_cons, List.not_mem_nil, or_false]
  rintro v (((((account | station) | rfl | rfl) | event) | group) | ofValue)
  · exact paddedDigits_le_nine account
  · exact paddedDigits_le_nine station
  · exact rank_le_nine _
  · exact code_le_nine _
  · exact paddedDigits_le_nine event
  · exact paddedDigits_le_nine group
  · exact value v ofValue

/-! ### A stream judged (R124) -/

theorem judgeStream_of_check {info : List Nat} (digits : ∀ v ∈ info, v ≤ 9) :
    judgeStream (info.map digitSym ++ [checkSym info]) = blockOf info := by
  rw [judgeStream, List.getLast?_append, List.dropLast_concat, digitsOf_map_digitSym digits]
  exact if_pos rfl

/-- A valid stream is digits with their check symbol behind them. -/
theorem of_judgeStream {syms : List Sym} {b : HeardBlock} (valid : judgeStream syms = some b) :
    ∃ info, blockOf info = some b ∧ (∀ v ∈ info, v ≤ 9) ∧ syms = info.map digitSym ++ [checkSym info] := by
  unfold judgeStream at valid
  split at valid
  · rename_i check info last read
    split at valid
    · rename_i fits
      obtain ⟨same, digits⟩ := of_digitsOf read
      refine ⟨info, valid, digits, ?_⟩
      rw [fits, ← same]
      exact (List.dropLast_append_getLast? check last).symm
    · cases valid
  · cases valid

theorem length_of_blockOf {info : List Nat} {b : HeardBlock} (valid : blockOf info = some b) :
    info.length = 13 ∨ info.length = 17 := by
  unfold blockOf at valid
  dsimp only at valid
  split at valid
  · obtain ⟨⟨-, -, -, -, long⟩, -⟩ := Option.ite_none_right_eq_some.1 valid
    split at long
    · exact .inr long
    · exact .inl long
  · cases valid

/-! ### The fields read back -/

theorem classOf_rank (c : ReportClass) : (digitSym c.rank).classOf = some c := by cases c <;> rfl

theorem ofCode_code (q : Qualifier) : Qualifier.ofCode q.code = some q := by cases q <;> rfl

/-- Each field of a block stands in its place among the information digits (R103; log entry 22). -/
theorem blockInfo_fields (set : Settings) (m : Matter) :
    (blockInfo set m).take 4 = paddedDigits 4 set.account ∧ ((blockInfo set m).drop 4).take 2 = paddedDigits 2 set.station
      ∧ (blockInfo set m).getD 6 9 = m.cls.rank ∧ (blockInfo set m).getD 7 0 = m.qualifier.code
      ∧ ((blockInfo set m).drop 8).take 3 = paddedDigits 3 m.event ∧ ((blockInfo set m).drop 11).take 2 = paddedDigits 2 m.group :=
  ⟨rfl, rfl, rfl, rfl, rfl, rfl⟩

end Sys2Proof.Machine

namespace Sys2Proof.Proofs
open Sys2Proof Sys2Proof.Machine

/-- Settles O41: the sum of the check place by place (`weightedSum_eq`), the digits of a block, and the digits a judged stream
must have been. -/
theorem checkSymbolOfABlock : Obligations.Check_symbol_of_a_block := by
  unfold Obligations.Check_symbol_of_a_block
  intro sum check
  have isCheck (info : List Nat) : checkSym info = check info := by
    have weights : weightedSum 1 info = sum info := by
      rw [weightedSum_eq]; simp only [Nat.add_comm 1]; rfl
    rw [checkSym_eq, weights]; rfl
  refine ⟨fun set m => ?_, fun syms b valid => ?_⟩
  · intro digits qualifier info
    have isInfo : info = blockInfo set m := by
      have code : m.qualifier.code = qualifier := by
        simp only [qualifier]; cases m.qualifier <;> rfl
      unfold blockInfo
      simp only [paddedDigits_eq, code]
      rfl
    rw [isInfo, ← isCheck]
    exact ⟨length_blockInfo set m, blockInfo_le_nine set m, rfl⟩
  · obtain ⟨info, block, digits, same⟩ := of_judgeStream valid
    exact ⟨info, length_of_blockOf block, digits, isCheck info ▸ same⟩

/-- Settles O42: the sent check passes (`judgeStream_of_check`), and each field's digits stand in its place and read back. -/
theorem blockReadsBack : Obligations.Block_reads_back := by
  intro set m stationLow stationHigh account eventLow eventHigh group value valued
  have length : (blockInfo set m).length =
      if m.qualifier = .alarmValue ∨ m.qualifier = .restoreValue ∨ (m.qualifier = .status ∧ m.event = 310) then 17 else 13 := by
    rw [length_blockInfo]; simp only [valued]
  refine ⟨(blockInfo set m).map digitSym ++ [checkSym (blockInfo set m)], ?_, ?_, ?_⟩
  · simp [blockSyms]
  · rw [List.length_append, List.length_map, length]
    split <;> simp
  · obtain ⟨accountAt, stationAt, clsAt, qualifierAt, eventAt, groupAt⟩ := blockInfo_fields set m
    have accountBack : numberOf (paddedDigits 4 set.account) = set.account := numberOf_paddedDigits (by omega)
    have stationBack : numberOf (paddedDigits 2 set.station) = set.station := numberOf_paddedDigits (by omega)
    have eventBack : numberOf (paddedDigits 3 m.event) = m.event := numberOf_paddedDigits (by omega)
    have groupBack : numberOf (paddedDigits 2 m.group) = m.group := numberOf_paddedDigits (by omega)
    rw [judgeStream_of_check (blockInfo_le_nine set m), blockOf]
    simp only [accountAt, stationAt, clsAt, qualifierAt, eventAt, groupAt, classOf_rank, ofCode_code, accountBack, stationBack,
      eventBack, groupBack]
    exact if_pos ⟨stationLow, stationHigh, eventLow, eventHigh, length⟩

end Sys2Proof.Proofs
end

section
/-! The pause of a call: what resumes at its end, and what a symbol heard in it does (R112 to R117). -/

namespace Sys2Proof.Machine

section
variable {s : State} {l : LineNo}

/-! ### The end of a pause (R116, R117) -/

/-- The call again in the state a pause left, with no pause. -/
def State.unpaused (s : State) (p : PauseRecord) : State := s.setCall fun c => { c with state := p.from_, pause := none }

/-- What goes on in `back` after a pause in `s` from a state, with DIAL noted in it or not (R117; log entry 26). -/
def goOn (dialNoted : Bool) (s back : State) : CallState → State
  | .dialtoneWait => if dialNoted then startDialling back else back
  | .dialling => dialSymbol back
  | .awaitHandshake => if reached s.call.leadIn s.now then beginBlock back else back
  | .sendingBlock => beginBlock back
  | .awaitAck => if s.call.resendDue ∨ reached s.call.leadIn s.now then beginBlock back else back
  | .idle | .paused | .closing => back

section
variable {p : PauseRecord} (pause : s.call.pause = some p)
include pause

theorem resumeCall_eq : resumeCall s = goOn p.dialNoted s (s.unpaused p) p.from_ := by
  rw [resumeCall, pause]
  rfl

theorem endPause_eq : endPause s = if p.from_ = .dialling then endCall .intruded s else resumeCall s := by
  rw [endPause, pause]

/-! ### Symbols heard in a pause (R114, R115) -/

omit pause in
/-- A D completes no demand. -/
theorem demandClass_d (dEnded : Option Nat) (onset : Nat) : demandClass dEnded .d onset = none := by
  cases dEnded <;> rfl

theorem setPause_eq (f : PauseRecord → PauseRecord) : s.setPause f = s.setCall fun c => { c with pause := some (f p) } :=
  s.setCall_congr _ _ (by rw [pause]; rfl)

theorem pausedSymbol_d (duration : Nat) :
    pausedSymbol .d duration s = s.setCall fun c =>
      { c with pause := some { p with dEnded := if 500 ≤ duration then some s.now else none } } := by
  rw [pausedSymbol, pause]
  exact setPause_eq pause _

variable {y : Sym} {duration : Nat}

theorem pausedSymbol_demand {c : ReportClass} (demand : demandClass p.dEnded y (s.now - duration) = some c) :
    pausedSymbol y duration s = answerDemand c s := by
  have notD : y ≠ .d := by
    rintro rfl
    exact absurd ((demandClass_d _ _).symm.trans demand) nofun
  rw [pausedSymbol, pause]
  dsimp only
  rw [if_neg notD, demand]

theorem pausedSymbol_other (notD : y ≠ .d) (none : demandClass p.dEnded y (s.now - duration) = none) :
    pausedSymbol y duration s = s.setCall fun c => { c with pause := some { p with dEnded := .none } } := by
  rw [pausedSymbol, pause]
  dsimp only
  rw [if_neg notD, none]
  exact setPause_eq pause _

end

/-- A demand is complete with a class digit begun within 300 ms of the end of its D (R114, R126). -/
theorem demandClass_eq_some {dEnded : Option Nat} {y : Sym} {onset e : Nat} {c : ReportClass} (ended : dEnded = some e)
    (cls : y.classOf = some c) (inTime : onset ≤ e + 300) : demandClass dEnded y onset = some c := by
  simp only [demandClass, ended, cls]
  exact if_pos inTime

theorem demandClass_eq_none {dEnded : Option Nat} {y : Sym} {onset : Nat}
    (incomplete : y.classOf = none ∨ dEnded = none ∨ ∃ e, dEnded = some e ∧ e + 300 < onset) :
    demandClass dEnded y onset = none := by
  unfold demandClass
  split
  · rename_i e c cls
    obtain noClass | noD | ⟨e', ended, late⟩ := incomplete
    · cases noClass.symm.trans cls
    · cases noD
    · cases ended; exact if_neg (Nat.not_le.2 late)
  · rfl

theorem answerDemand_of_head {h : Report} (head : s.batchHead = some h) (c : ReportClass) :
    answerDemand c s = if c.rank < h.matter.cls.rank then endCall .yielded s else resumeCall s := by
  rw [answerDemand, head]

/-- A symbol heard on the held line of a paused call (R66, R67, R114). -/
theorem exec_symbolReport_paused {pair : TonePair} {duration : Nat} {y : Sym} (paused : s.call.state = .paused)
    (mine : s.call.line = some l) (held : (s.line l).state = .held) (heard : Hears l duration s) (long : 40 ≤ duration)
    (symbol : TonePair.sym pair = some y) :
    exec (.symbolReport l pair duration) s = .next (pausedSymbol y duration (noteHeard l id s)) := by
  have taken : ((noteHeard l id s).line l).state.taken = true := by rw [noteHeard, State.line_setLine, id, held]; rfl
  rw [reports_symbolReport.1 ⟨heard, long⟩, symbol]
  exact congrArg Host.Outcome.next ((routeTone_call _ _ taken mine).trans (if_pos paused))

end

end Sys2Proof.Machine

namespace Sys2Proof.Proofs
open Sys2Proof Sys2Proof.Machine

/-- Settles O46: the pause's beginning (`pauseCall_eq`), what resumes at its end by the state it left, and the demand that a symbol
heard in it completes or does not. -/
theorem pauseOfACall : Obligations.Pause_of_a_call := by
  refine fun s => ⟨pauseCall_eq, fun p running paused pause => ⟨?_, fun past => ?_, ?_⟩⟩
  · intro back leadIn
    have due : leadIn ↔ reached s.call.leadIn s.now = true := reached_iff.symm
    rw [resumeCall_eq pause]
    refine ⟨fun from_ => ?_, fun from_ => ?_, fun from_ => ?_, fun from_ => ?_, fun from_ => ?_⟩
    all_goals rw [from_]
    · rfl
    · rfl
    · rfl
    · exact ⟨fun is => if_pos (due.1 is), fun no => if_neg fun is => no (due.2 is)⟩
    · refine ⟨fun is => if_pos (is.symm.imp_right due.1), fun no once => if_neg ?_⟩
      rintro (again | is)
      · rw [once] at again; cases again
      · exact no (due.2 is)
  · rw [exec_pauseEnd running paused pause past, endPause_eq pause]
  · intro l pair y duration mine held heard long symbol noted
    have pauseNoted : noted.call.pause = some p := pause
    rw [exec_symbolReport_paused paused mine held heard long symbol]
    refine ⟨fun isD => ?_, fun c e h cls ended inTime head => ?_, fun notD incomplete => ?_⟩
    · rw [isD]; exact congrArg Host.Outcome.next (pausedSymbol_d pauseNoted duration)
    · have demand := demandClass_eq_some (onset := noted.now - duration) ended cls inTime
      exact congrArg Host.Outcome.next ((pausedSymbol_demand pauseNoted demand).trans (answerDemand_of_head (s := noted) head c))
    · exact congrArg Host.Outcome.next (pausedSymbol_other pauseNoted notD (demandClass_eq_none incomplete))

end Sys2Proof.Proofs
end

section
/-! The taking of a grant: the batch that goes with the granted head, and the reports passed with it (R97, R98). -/

namespace Sys2Proof.Machine

section
variable {s : State} {l : LineNo}

/-! ### The batch (R98) -/

/-- What becomes of a report of the queue when the reports of some numbers go to IN_CALL (R38). -/
def takenIn (seqs : List Nat) (x : Report) : Report := if x.seq ∈ seqs then { x with state := .inCall } else x

/-- Reports taken into a call one after another are taken at once. -/
theorem takeIntoCall_foldl (seqs : List Nat) (s : State) :
    seqs.foldl (fun t q => takeIntoCall q t) s = mapReports (takenIn seqs) s := by
  induction seqs generalizing s with
  | nil =>
    have same : takenIn [] = id := by funext x; simp [takenIn]
    rw [mapReports, same, List.map_id]
    rfl
  | cons q seqs ih =>
    have one (x : Report) : takenIn seqs (if x.seq = q then { x with state := .inCall } else x) = takenIn (q :: seqs) x := by
      by_cases first : x.seq = q <;> by_cases later : x.seq ∈ seqs <;> simp [takenIn, first, later]
    rw [List.foldl_cons, ih]
    simp only [mapReports, takeIntoCall, State.setReport, List.map_map, Function.comp_def, one]

/-- A companion of a granted head, in the terms of R30 and R98. -/
theorem isCompanion_eq (head : Nat) (dest : Option DestId) :
    isCompanion s head dest l = fun x => decide (x.seq ≠ head ∧ x.state = .queued ∧ x.eligibleAt ≤ s.clock
      ∧ (∃ m, (s.line m).fitted = true ∧ (s.settings.masks.get x.matter.cls).getLsbD m.val = true)
      ∧ (s.settings.routes.get x.matter.cls).first ≠ none ∧ s.settings.currentDest x = dest
      ∧ (s.settings.masks.get x.matter.cls).getLsbD l.val = true) := by
  funext x
  rw [Bool.eq_iff_iff]
  simp [isCompanion, State.eligible, State.permits, Settings.maskNames, Settings.hasRoute, mem_allLines, and_assoc,
    Option.isSome_iff_ne_none]

/-- What eligibility reads: the clock, the settings, and which lines are fitted. -/
theorem eligible_congr {t : State} (clock : t.clock = s.clock) (settings : t.settings = s.settings)
    (fitted : ∀ m, (t.line m).fitted = (s.line m).fitted) : t.eligible = s.eligible := by
  funext x
  unfold State.eligible State.permits
  simp only [clock, settings, fitted]

theorem isCompanion_congr {t : State} (clock : t.clock = s.clock) (settings : t.settings = s.settings)
    (fitted : ∀ m, (t.line m).fitted = (s.line m).fitted) : isCompanion t = isCompanion s := by
  funext head dest l x
  unfold isCompanion
  simp only [eligible_congr clock settings fitted, settings]

theorem fitted_setHolder (m : LineNo) (b : Option Holder) :
    ((s.setLine l fun ln => { ln with holder := b }).line m).fitted = (s.line m).fitted := by
  by_cases same : m = l
  · subst same; rw [State.line_setLine]
  · rw [State.line_setLine_ne _ _ _ _ same]

/-! ### The take (R97) -/

/-- The call context that a grant leaves, awaiting DIAL for 4 s. -/
def grantedCall (now : Nat) (l : LineNo) (dest : Option DestId) (seqs : List Nat) : Call :=
  { freshCall with
    state := .dialtoneWait, line := some l, dest := dest, batch := seqs.map fun q => ⟨q, 0⟩, dialDeadline := some (now + 4000) }

/-- The grant taken with a batch: the line handed over, the acquisition over, the batch IN_CALL, and the head not yet decided. -/
def grantTaken (l : LineNo) (dest : Option DestId) (seqs : List Nat) (s : State) : State :=
  { s with
    access := ⟨.idle, s.access.cursor⟩
    lines := (s.setLine l fun ln => { ln with holder := some .call }).lines
    queue := { s.queue with reports := s.queue.reports.map (takenIn seqs) }
    call := grantedCall s.now l dest seqs }

theorem formBatch_granted (dest : Option DestId) (head : Nat) (c : Call) :
    formBatch ((handLineToCall l (s.setCall fun _ => c)).setAccess .idle) head dest l = formBatch s head dest l := by
  let handed := (handLineToCall l (s.setCall fun _ => c)).setAccess .idle
  have companions : isCompanion handed = isCompanion s := isCompanion_congr rfl rfl fun m => fitted_setHolder (s := s) m (some .call)
  exact congrArg (fun p : Report → Bool => (head :: (s.queue.reports.filter p).map (·.seq)).take 4)
    (congrFun (congrFun (congrFun companions head) dest) l)

/-- The grant taken for a report, with the head decided. -/
def tookGrant (l : LineNo) (r : Report) (s : State) : State :=
  headDecided (grantTaken l (s.settings.currentDest r) (formBatch s r.seq (s.settings.currentDest r) l) s)

/-- A grant is taken with its batch, dialling begins if DIAL is heard, and the reports passed are taken in their order. -/
theorem takeGrant_eq (r : Report) (passed : List HeldReport) :
    takeGrant l r passed s = passed.foldl (fun t h => takeHeldReport h t)
      (if (s.line l).dialHeard then startDialling (tookGrant l r s) else tookGrant l r s) := by
  have dialHeard : ((tookGrant l r s).line l).dialHeard = (s.line l).dialHeard := by
    show ((s.setLine l fun ln => { ln with holder := some .call }).line l).dialHeard = _
    rw [State.line_setLine]
  rw [takeGrant, formBatch_granted, takeIntoCall_foldl, decideHead_engaged (by simp [mapReports, handLineToCall]), ← dialHeard]
  rfl

theorem exec_takeGrant {t0 : Nat} {r : Report} {passed : List HeldReport} (running : s.running = true)
    (granted : s.access.state = .granted t0 l r.seq passed) (idle : s.call.state = .idle) (here : s.report r.seq = some r) :
    exec .takeGrant s = .next (takeGrant l r passed s) := by
  have due : takeGrantDue s = true := by simp [takeGrantDue, granted, running, idle, here]
  have effect : exec .takeGrant s = .next (takeOffered s) := whenDue_true due
  rw [effect, takeOffered, granted]
  dsimp only
  rw [here]

end

end Sys2Proof.Machine

namespace Sys2Proof.Proofs
open Sys2Proof Sys2Proof.Machine

/-- Settles O38: the companions are those of R98 (`isCompanion_eq`), and the grant is taken with its batch (`takeGrant_eq`). -/
theorem grantIsTaken : Obligations.Grant_is_taken := by
  intro s t0 l r passed running granted idle here dest seqs taken base
  have batch : formBatch s r.seq dest l = seqs := by rw [formBatch, isCompanion_eq]
  rw [exec_takeGrant running granted idle here, takeGrant_eq, tookGrant, batch]
  rfl

end Sys2Proof.Proofs
end

section
/-! What every step keeps of the peer listener, the port, the supply and the start pin: which events leave the heard table and the
acknowledgements awaited alone (R127 to R130). -/

namespace Sys2Proof.Machine

/-! ### Acknowledgements awaited -/

/-- Two states in which every line awaits the same acknowledgement. -/
def SameAwaiting (s t : State) : Prop := ∀ m, (t.decoder m).awaiting = (s.decoder m).awaiting

section
variable {s t u : State}

theorem SameAwaiting.refl : SameAwaiting s s := fun _ => rfl

theorem SameAwaiting.trans (h : SameAwaiting s t) (k : SameAwaiting t u) : SameAwaiting s u := fun m => (k m).trans (h m)

theorem SameAwaiting.of_listener (same : t.listener = s.listener) : SameAwaiting s t := fun _ => by
  rw [decoder_of_listener same]

theorem Acts.sameAwaiting (acts : Acts s t) : SameAwaiting s t := acts.awaiting

end

section
variable (s : State)

theorem sameAwaiting_setDecoder (l : LineNo) (f : Decoder → Decoder) (same : ∀ d, (f d).awaiting = d.awaiting) :
    SameAwaiting s (s.setDecoder l f) := fun m => by
  by_cases eq : m = l
  · subst eq; rw [State.decoder_setDecoder, same]
  · rw [State.decoder_setDecoder_ne _ _ _ _ eq]

theorem sameAwaiting_discardStream (l : LineNo) : SameAwaiting s (discardStream l s) := fun m => by
  rw [decoder_discardStream]
  split
  · rename_i eq; subst eq; rfl
  · rfl

theorem sameAwaiting_releaseLine (b : Holder) (k : ReleaseKind) (l : LineNo) : SameAwaiting s (releaseLine b k l s) :=
  .of_listener (listener_releaseLine b k l s)

theorem listener_awaitLine (t0 : Nat) : (awaitLine t0 s).listener = s.listener := by
  obtain ⟨_, h⟩ | ⟨_, _, _, h⟩ | ⟨_, _, _, _, h⟩ := awaitLine_cases s t0 <;> rw [h] <;> rfl

theorem sameAwaiting_chooseLine (t0 : Nat) : SameAwaiting s (chooseLine t0 s) := by
  have awaits : SameAwaiting s (awaitLine t0 s) := .of_listener (listener_awaitLine s t0)
  obtain h | ⟨_, l, _, _, _, _, _, _, h⟩ := chooseLine_cases s t0 <;> rw [h]
  · exact awaits
  · exact awaits.trans (sameAwaiting_discardStream _ l)

theorem sameAwaiting_checkClear (t0 : Nat) (l : LineNo) : SameAwaiting s (checkClear t0 l s) := by
  have released := sameAwaiting_releaseLine s .access .plain l
  unfold checkClear; split
  · exact released
  · split
    · exact .refl
    · exact released.trans (sameAwaiting_chooseLine _ t0)

theorem sameAwaiting_accessCheckResult (res : CheckResult) : SameAwaiting s (accessCheckResult res s) := by
  have charged := (acts_raiseHeadContention s).sameAwaiting
  unfold accessCheckResult; split
  · split
    · exact charged.trans (sameAwaiting_chooseLine _ _)
    · exact charged.trans (sameAwaiting_chooseLine _ _)
    · exact sameAwaiting_chooseLine s _
    · exact sameAwaiting_checkClear s _ _
  · exact .refl

/-! ### The lines' events (R51 to R65) -/

theorem sameAwaiting_deadFault (l : LineNo) : SameAwaiting s (deadFault l s) := by
  unfold deadFault; split
  · exact (acts_tellTrouble (s.setLine l _) _ _).sameAwaiting
  · exact (acts_accessLineNotice (s.setLine l _) l).sameAwaiting.trans (acts_tellTrouble _ _ _).sameAwaiting

theorem sameAwaiting_enterOnhook (l : LineNo) (b : OnhookBand) : SameAwaiting s (enterOnhook l b s) := by
  have entered : SameAwaiting s (accessLineNotice l (s.setLine l (Line.enterOnhook s.now b))) :=
    (acts_accessLineNotice (s.setLine l _) l).sameAwaiting
  unfold enterOnhook; dsimp only; split
  · exact entered.trans (sameAwaiting_deadFault _ l)
  · exact entered

theorem sameAwaiting_endPeriod (l : LineNo) : SameAwaiting s (endPeriod l s) := by
  unfold endPeriod; split
  · exact sameAwaiting_enterOnhook s l _
  · exact .of_listener rfl

theorem sameAwaiting_qualifyOnhook (l : LineNo) : SameAwaiting s (qualifyOnhook l s) := by
  unfold qualifyOnhook; dsimp only; split
  · split
    · exact sameAwaiting_enterOnhook (s.setLine l _) l _
    · exact .of_listener rfl
  · exact .of_listener rfl

theorem sameAwaiting_recoverLine (l : LineNo) : SameAwaiting s (recoverLine l s) := by
  unfold recoverLine; split
  · exact (sameAwaiting_enterOnhook s l _).trans (acts_tellTrouble _ _ _).sameAwaiting
  · exact .refl

theorem sameAwaiting_foundShared (res : CheckResult) (l : LineNo) : SameAwaiting s (foundShared res l s) := by
  have dropped : SameAwaiting s (dropToGuard false l
      (s.setLine l fun ln => { ln with collisions := saturatingSucc 65535 ln.collisions })) := .of_listener rfl
  exact dropped.trans (sameAwaiting_accessCheckResult _ res)

theorem sameAwaiting_qualifyCurrent (l : LineNo) : SameAwaiting s (qualifyCurrent l s) := by
  unfold qualifyCurrent; dsimp only; split
  · split
    · split
      · exact sameAwaiting_foundShared (s.setLine l _) _ l
      · exact .of_listener rfl
    · unfold tellCurrent; split
      · exact (acts_accessCurrentChange (s.setLine l _) _).sameAwaiting
      · exact .of_listener rfl
  · exact .of_listener rfl

theorem sameAwaiting_checkedClear (l : LineNo) : SameAwaiting s (checkedClear l s) := by
  refine SameAwaiting.trans ?_ (sameAwaiting_accessCheckResult _ .clear)
  split
  · exact (acts_tellTrouble (s.setLine l _) _ _).sameAwaiting
  · exact .of_listener rfl

theorem sameAwaiting_checkedNoLoop (l : LineNo) : SameAwaiting s (checkedNoLoop l s) := by
  have dropped : SameAwaiting s (silenceLine l (s.setLine l fun ln =>
      { (ln.openRelay s.now .faulted none).receiverAnew s.now with faultCause := some .noLoop, noLoop := true })) :=
    .of_listener rfl
  refine SameAwaiting.trans ?_ (sameAwaiting_accessCheckResult _ .noLoop)
  split
  · exact dropped
  · exact dropped.trans (acts_tellTrouble _ _ _).sameAwaiting

theorem sameAwaiting_endCheckWindow (l : LineNo) : SameAwaiting s (endCheckWindow l s) := by
  unfold endCheckWindow; split
  · exact sameAwaiting_checkedClear s l
  · exact sameAwaiting_checkedNoLoop s l
  · exact sameAwaiting_foundShared s _ l
  · exact sameAwaiting_foundShared s _ l

theorem sameAwaiting_endBreak (l : LineNo) : SameAwaiting s (endBreak l s) := by
  unfold endBreak; dsimp only; split
  · split <;> exact .of_listener rfl
  · exact .of_listener rfl

theorem sameAwaiting_succeedPreempt : SameAwaiting s (succeedPreempt s) := by
  unfold succeedPreempt; split
  · exact sameAwaiting_releaseLine s _ _ _
  · exact .refl

/-! ### Tones, and the grant taken (R67, R68, R97) -/

theorem sameAwaiting_routeTone (l : LineNo) (call peer : State → State) (hc : SameAwaiting s (call s))
    (hp : SameAwaiting s (peer s)) : SameAwaiting s (routeTone l call peer s) := by
  obtain h | h | h := routeTone_cases l call peer s <;> rw [h]
  · exact hc
  · exact .refl
  · exact hp

theorem sameAwaiting_endTone : SameAwaiting s (endTone s) := by
  have finished (r : ToneRequest) : SameAwaiting s (finishTone r s) := by
    unfold finishTone; dsimp only; split <;> exact .of_listener rfl
  unfold endTone; split
  · exact (finished _).trans (Acts.sameAwaiting ((acts_accessToneDone _ _ _).trans (acts_callToneDone _ _)))
  · exact .refl

theorem sameAwaiting_takeGrant (l : LineNo) (r : Report) (passed : List HeldReport) : SameAwaiting s (takeGrant l r passed s) := by
  have took : SameAwaiting s (tookGrant l r s) := .of_listener rfl
  have engaged : (tookGrant l r s).call.state = .dialtoneWait := rfl
  have dialling := (acts_startDialling (tookGrant l r s) (by simp [engaged])).sameAwaiting
  rw [takeGrant_eq]
  refine SameAwaiting.trans ?_ (acts_takeHeldReports passed _).sameAwaiting
  split
  · exact took.trans dialling
  · exact took

theorem sameAwaiting_takeOffered : SameAwaiting s (takeOffered s) := by
  unfold takeOffered; split
  · split
    · exact sameAwaiting_takeGrant s _ _ _
    · exact .refl
  · exact .refl

/-! ### All events but four -/

/-- The events by which the heard table or an acknowledgement awaited may change. -/
def hearingEvent : Instr → Bool
  | .symbolReport _ _ _ | .ackRecognised _ _ | .heardEntryExpiry _ | .awaitingAckDeadline _ => true
  | _ => false

theorem sameAwaiting_whenDue {b : Bool} {f : State → State} {t : State} (taken : whenDue b f s = .next t)
    (effect : b = true → SameAwaiting s (f s)) : SameAwaiting s t := by
  obtain ⟨due, h⟩ | ⟨_, h⟩ := whenDue_cases s b f <;> cases h.symm.trans taken
  · exact effect due
  · exact .refl

/-- The events of the queue, the access controller, the lines, the call and the receivers. -/
theorem sameAwaiting_otherEvent {i : Instr} {t : State} (start : startEvent i = false) (channel : channelEvent i = none)
    (port : portEvent i = false) (hearing : hearingEvent i = false) (taken : exec i s = .next t) : SameAwaiting s t := by
  have noted (l : LineNo) (f : Line → Line) : SameAwaiting s (noteHeard l f s) := .of_listener rfl
  cases i <;> cases start <;> cases channel <;> cases port <;> cases hearing <;> unfold exec at taken <;>
    refine sameAwaiting_whenDue s taken fun due => ?_
  case eligibleAtReached => exact (acts_decideHead s).sameAwaiting
  case restEnd => exact Acts.sameAwaiting ((acts_setReport s _ _).trans (acts_decideHead _))
  case testTimerExpiry => exact (acts_expireTestTimer s).sameAwaiting
  case holdoffDeadline => exact (acts_seizeChosen s).sameAwaiting
  case preemptWaitExpiry => exact (acts_expirePreemptWait s).sameAwaiting
  case yieldDemandRepeat => exact (acts_repeatDemand s).sameAwaiting
  case yieldDemandGapEnd => exact (acts_sendClassDigit s).sameAwaiting
  case preemptSuccess => exact sameAwaiting_succeedPreempt s
  case preemptResponseEnd => exact (acts_failPreempt s).sameAwaiting
  case lineVoltageSample | loopCurrentSample => exact .of_listener rfl
  case lineOnhookBandQualified => exact sameAwaiting_qualifyOnhook s _
  case settlingEnd | guardEnd | noLoopFaultEnd => exact sameAwaiting_endPeriod s _
  case deadRunLimit => exact sameAwaiting_deadFault s _
  case deadFaultRecovery => exact sameAwaiting_recoverLine s _
  case currentBandQualified => exact sameAwaiting_qualifyCurrent s _
  case checkWindowEnd => exact sameAwaiting_endCheckWindow s _
  case breakEnd => exact sameAwaiting_endBreak s _
  case intrusion l =>
    exact (acts_tellHolder (s.setLine l _) l _ _ (acts_passWithGrant _ _) (acts_pauseCall _)).sameAwaiting
  case loopLoss l =>
    exact (acts_tellHolder (s.setLine l _) l _ _ (acts_accessLoopLoss _) (acts_callLoopLoss _)).sameAwaiting
  case dialRecognised l _ =>
    exact (noted l _).trans
      (sameAwaiting_routeTone _ l _ _ (acts_callDial _).sameAwaiting (sameAwaiting_discardStream _ l))
  case dialEnd l _ => exact noted l _
  case busyReport l _ _ =>
    exact (noted l _).trans
      (sameAwaiting_routeTone _ l _ _ (acts_callBusy _).sameAwaiting (sameAwaiting_discardStream _ l))
  case handshakeRecognised l _ =>
    exact (noted l _).trans
      (sameAwaiting_routeTone _ l _ _ (acts_callHandshake _).sameAwaiting (sameAwaiting_discardStream _ l))
  case handshakeEnd l _ =>
    exact (noted l _).trans (sameAwaiting_routeTone _ l _ _ (acts_callHandshakeEnd _).sameAwaiting .refl)
  case ackEnd l _ => exact (noted l _).trans (sameAwaiting_routeTone _ l _ _ (acts_callAckEnd _).sameAwaiting .refl)
  case silenceReport l => exact sameAwaiting_routeTone (s.setLine l _) l _ _ .refl (sameAwaiting_discardStream _ l)
  case toneRequestDone => exact sameAwaiting_endTone s
  case takeGrant => exact sameAwaiting_takeOffered s
  case dialDeadline | handshakeDeadline => exact (acts_endCall s _).sameAwaiting
  case dialGapEnd => exact (acts_endDialGap s (engaged_of_gap s due (by simp))).sameAwaiting
  case leadInDue => exact (acts_beginBlock s (engaged_of_leadIn s due)).sameAwaiting
  case blockSymbolGapEnd => exact (acts_sendSymbol s (engaged_of_gap s due (by simp))).sameAwaiting
  case ackDeadline => exact (acts_expireAck s (engaged_of_deadline s due (by simp))).sameAwaiting
  case pauseEnd => exact (acts_endPause s (engaged_of_gap s due (by simp))).sameAwaiting
  case clashEnd =>
    have ended : SameAwaiting s { s with listener := { s.listener with clashEnd := none } } := fun _ => rfl
    exact ended.trans (acts_tellTrouble _ _ _).sameAwaiting

/-- Only a symbol, an ACK, an expiry and a deadline change which acknowledgements are awaited (R127 to R130). -/
theorem sameAwaiting_exec {i : Instr} {t : State} (start : startEvent i = false) (hearing : hearingEvent i = false)
    (taken : exec i s = .next t) : SameAwaiting s t := by
  cases channel : channelEvent i with
  | some c => exact (acts_of_channelActs (channelActs_exec s channel taken)).sameAwaiting
  | none =>
    cases port : portEvent i with
    | true => exact (acts_portEvent s port taken).sameAwaiting
    | false => exact sameAwaiting_otherEvent s start channel port hearing taken

end

end Sys2Proof.Machine
end

section
/-! What keeps the heard table sound: sixteen entries at most, oldest first and alike in no two, with every acknowledgement awaited for
one of them or for nothing (R127 to R130). -/

namespace Sys2Proof.Machine

/-! ### One heard table -/

/-- Two states with one heard table and the same acknowledgements awaited, under the same settings and at a clock no earlier. -/
structure SameHeard (s t : State) : Prop where
  heard : t.listener.heard = s.listener.heard
  awaiting : SameAwaiting s t
  settings : t.settings = s.settings
  clock : s.clock ≤ t.clock

section
variable {s t : State}

theorem Kept.sameHeard (kept : Kept s t) (awaiting : SameAwaiting s t) : SameHeard s t :=
  ⟨kept.heard, awaiting, kept.settings, kept.clock.ge⟩

theorem SameHeard.heardSound (same : SameHeard s t) (sound : s.heardSound) : t.heardSound := by
  obtain ⟨few, distinct, entries, ordered, named⟩ := sound
  refine ⟨?_, ?_, ?_, ?_, fun l a k is names => ?_⟩ <;> rw [same.heard]
  · exact few
  · exact distinct
  · intro e mem
    obtain ⟨ok, peer, past⟩ := entries e mem
    exact ⟨ok, by rw [same.settings]; exact peer, past.trans same.clock⟩
  · exact ordered
  · exact named l a k (same.awaiting l ▸ is) names

/-- With nothing heard and nothing awaited the table is sound. -/
theorem heardSound_of_nothing (heard : s.listener.heard = []) (awaiting : ∀ l, (s.decoder l).awaiting = none) : s.heardSound := by
  refine ⟨?_, ?_, ?_, ?_, fun l a k is _ => ?_⟩
  · simp [heard]
  · simp [heard]
  · simp [heard]
  · simp [heard]
  · simp [awaiting] at is

end

/-! ### Entries and names (R127 to R130) -/

section
variable {s : State} (sound : s.heardSound)
include sound

/-- A line's acknowledgement names an entry of the table, or nothing. -/
theorem heardSound_setDecoder (l : LineNo) (f : Decoder → Decoder)
    (named : ∀ a k, (f (s.decoder l)).awaiting = some a → a.names = some k → k ∈ s.listener.heard.map (·.key)) :
    (s.setDecoder l f).heardSound := by
  obtain ⟨few, distinct, entries, ordered, others⟩ := sound
  refine ⟨few, distinct, entries, ordered, fun m a k is names => ?_⟩
  by_cases eq : m = l
  · subst eq; rw [State.decoder_setDecoder] at is; exact named a k is names
  · rw [State.decoder_setDecoder_ne _ _ _ _ eq] at is; exact others m a k is names

/-- An awaited acknowledgement lapses, or counts. -/
theorem heardSound_awaitNothing (l : LineNo) : (s.setDecoder l fun d => { d with awaiting := none }).heardSound :=
  heardSound_setDecoder sound l _ fun _ _ is => nomatch is

theorem heardSound_awaitAck_none (l : LineNo) : (awaitAck l none s).heardSound :=
  heardSound_setDecoder sound l _ fun _ _ is names => by cases is; cases names

theorem heardSound_awaitAck_some (l : LineNo) {key : HeardKey} (mem : key ∈ s.listener.heard.map (·.key)) :
    (awaitAck l (some key) s).heardSound :=
  heardSound_setDecoder sound l _ fun _ _ is names => by cases is; cases names; exact mem

/-- An entry leaves the table with the names that are its own (R128, R129). -/
theorem heardSound_forgetHeard (gone : HeardKey) : (forgetHeard gone s).heardSound := by
  obtain ⟨few, distinct, entries, ordered, named⟩ := sound
  rw [forgetHeard_eq]
  refine ⟨(List.length_filter_le _ _).trans few, distinct.sublist (List.filter_sublist.map _),
    fun e mem => entries e (List.mem_filter.1 mem).1, ordered.filter _, fun l a k is names => ?_⟩
  have decoder : (s.listener.decoders.map (·.unname gone))[l.val]'l.isLt = (s.decoder l).unname gone := Vector.getElem_map _ l.isLt
  have unnamed : ((s.decoder l).unname gone).awaiting = some a := decoder ▸ is
  obtain ⟨b, before, rfl⟩ := Option.map_eq_some_iff.1 unnamed
  by_cases its : b.names = some gone
  · rw [if_pos its] at names; cases names
  · rw [if_neg its] at names
    obtain ⟨e, mem, rfl⟩ := List.mem_map.1 (named l b k before names)
    have other : e.key ≠ gone := fun eq => its (eq ▸ names)
    exact List.mem_map.2 ⟨e, List.mem_filter.2 ⟨mem, by simpa using other⟩, rfl⟩

/-- A new entry is placed newest where there is room and none of its key (R128). -/
theorem heardSound_append {e : HeardEntry} (room : s.listener.heard.length ≤ 15) (new : e.key ∉ s.listener.heard.map (·.key))
    (ok : e.key.ok = true) (peer : e.key.station ≠ s.settings.station) (heard : e.heard = s.clock) :
    (s.setHeard fun es => es ++ [e]).heardSound := by
  obtain ⟨few, distinct, entries, ordered, named⟩ := sound
  refine ⟨?_, ?_, fun x mem => ?_, ?_, fun l a k is names => ?_⟩ <;> rw [State.setHeard_heard] at *
  · rw [List.length_append, List.length_singleton]; omega
  · rw [List.map_append, List.map_singleton, List.nodup_append]
    refine ⟨distinct, List.nodup_singleton _, fun a mem b is => ?_⟩
    rw [List.mem_singleton.1 is]
    exact fun eq => new (eq ▸ mem)
  · rcases List.mem_append.1 mem with old | is
    · exact entries x old
    · rw [List.mem_singleton.1 is]; exact ⟨ok, peer, heard.le⟩
  · rw [List.pairwise_append]
    refine ⟨ordered, List.pairwise_singleton _ _, fun a mem b is => ?_⟩
    rw [List.mem_singleton.1 is, heard]
    exact (entries a mem).2.2
  · rw [List.map_append]
    exact List.mem_append_left _ (named l a k is names)

end

/-! ### A block entered (R124, R127, R128) -/

theorem length_staying_le (key : HeardKey) (heard : List HeardEntry) : (staying key heard).length ≤ 15 := by
  unfold staying; dsimp only; rw [List.length_drop]; omega

/-- Digits read on behind a number: the number so far is followed by no more than their nines. -/
theorem foldl_digits_lt {ds : List Nat} (digits : ∀ v ∈ ds, v ≤ 9) (n : Nat) :
    ds.foldl (fun m d => 10 * m + d) n < (n + 1) * 10 ^ ds.length := by
  induction ds generalizing n with
  | nil => simp
  | cons v ds ih =>
    rw [List.forall_mem_cons] at digits
    calc ds.foldl (fun m d => 10 * m + d) (10 * n + v)
        < (10 * n + v + 1) * 10 ^ ds.length := ih digits.2 _
      _ ≤ (10 * (n + 1)) * 10 ^ ds.length := Nat.mul_le_mul_right _ (by have := digits.1; omega)
      _ = (n + 1) * 10 ^ (v :: ds).length := by rw [List.length_cons, pow_succ]; ring

/-- Two digits make no more than 99. -/
theorem numberOf_take_two_le {ds : List Nat} (digits : ∀ v ∈ ds, v ≤ 9) : numberOf (ds.take 2) ≤ 99 := by
  have below : numberOf (ds.take 2) < (0 + 1) * 10 ^ (ds.take 2).length :=
    foldl_digits_lt (fun v mem => digits v (List.mem_of_mem_take mem)) 0
  have short : 10 ^ (ds.take 2).length ≤ 10 ^ 2 := Nat.pow_le_pow_right (by omega) (List.length_take_le 2 ds)
  omega

/-- A valid block has its numbers in the ranges of a heard entry (R124). -/
theorem ranges_of_judgeStream {syms : List Sym} {b : HeardBlock} (valid : judgeStream syms = some b) :
    1 ≤ b.station ∧ b.station ≤ 31 ∧ 100 ≤ b.event ∧ b.event ≤ 399 ∧ b.group ≤ 99 := by
  obtain ⟨info, isBlock, digits, -⟩ := of_judgeStream valid
  unfold blockOf at isBlock
  dsimp only at isBlock
  split at isBlock
  · obtain ⟨⟨low, high, first, last, -⟩, is⟩ := Option.ite_none_right_eq_some.1 isBlock
    cases is
    exact ⟨low, high, first, last, numberOf_take_two_le fun v mem => digits v (List.mem_of_mem_drop mem)⟩
  · cases isBlock

/-- What a block is heard as. -/
def HeardBlock.key (b : HeardBlock) : HeardKey := ⟨b.station, b.cls, b.qualifier.kind, b.event, b.group⟩

theorem key_ok_of_judgeStream {syms : List Sym} {b : HeardBlock} (valid : judgeStream syms = some b)
    (cls : coverable b.cls = true) (qualifier : b.qualifier ≠ .status) : b.key.ok = true := by
  obtain ⟨low, high, first, last, group⟩ := ranges_of_judgeStream valid
  have rank := (rank_le_two_iff b.cls).1 cls
  have kind : b.qualifier.kind ≠ .status := by cases q : b.qualifier <;> simp_all [Qualifier.kind]
  simp [HeardKey.ok, HeardBlock.key, low, high, first, last, group, rank, kind]

section
variable {s : State} (sound : s.heardSound)
include sound

/-- Room is made by an entry that leaves, or there is room. -/
theorem heardSound_makeRoom (key : HeardKey) :
    (makeRoom key s).heardSound ∧ (makeRoom key s).listener.heard = staying key s.listener.heard := by
  obtain ⟨gone, room, stays⟩ | ⟨room, stays⟩ := makeRoom_cases key sound.1 sound.2.1 <;> rw [room, stays]
  · exact ⟨heardSound_forgetHeard sound gone, by rw [forgetHeard_eq]⟩
  · exact ⟨sound, rfl⟩

theorem heardSound_enterHeard {key : HeardKey} (ok : key.ok = true) (peer : key.station ≠ s.settings.station) :
    (enterHeard key s).heardSound := by
  obtain ⟨roomy, heard⟩ := heardSound_makeRoom sound key
  have settings : (makeRoom key s).settings = s.settings := (onlyListener_enterHeard s key).kept.settings
  have clock : (makeRoom key s).clock = s.clock := (onlyListener_enterHeard s key).kept.clock
  rw [enterHeard_eq]
  refine heardSound_append roomy ?_ ?_ ok (settings ▸ peer) clock.symm
  · rw [heard]; exact length_staying_le key _
  · rw [heard]; exact key_not_mem_staying key _

theorem heardSound_setOccupant (l : LineNo) (c : ReportClass) : (setOccupant l c s).heardSound :=
  ((kept_setOccupant s l c).sameHeard fun m => awaiting_setOccupant l m c s).heardSound sound

theorem heardSound_stationClash : (stationClash s).heardSound := by
  have clash (e : Option Nat) : SameHeard s { s with listener := { s.listener with clashEnd := e } } :=
    ⟨rfl, fun _ => rfl, rfl, le_rfl⟩
  unfold stationClash; dsimp only; split
  · exact (clash _).heardSound sound
  · exact ((kept_tellTrouble _ _ _).sameHeard (acts_tellTrouble _ _ _).sameAwaiting).heardSound ((clash _).heardSound sound)

theorem heardSound_takeBlock (l : LineNo) {syms : List Sym} {b : HeardBlock} (valid : judgeStream syms = some b) :
    (takeBlock l b s).heardSound := by
  have named := heardSound_setOccupant sound l b.cls
  have settings : (setOccupant l b.cls s).settings = s.settings := (kept_setOccupant s l b.cls).settings
  unfold takeBlock; dsimp only; split
  · exact heardSound_awaitAck_none named l
  · split
    · exact heardSound_stationClash (heardSound_awaitAck_none named l)
    · rename_i peer
      split
      · rename_i heard
        have entered := heardSound_enterHeard named (key_ok_of_judgeStream valid heard.1 heard.2) (settings ▸ peer)
        refine heardSound_awaitAck_some entered l ?_
        rw [enterHeard_eq, State.setHeard_heard, List.map_append]
        exact List.mem_append_right _ (List.mem_singleton_self _)
      · exact heardSound_awaitAck_none named l

/-! ### Symbols heard (R123 to R126) -/

theorem heardSound_setStream (l : LineNo) (st : Option Stream) : (setStream l st s).heardSound :=
  ((kept_setStream s l st).sameHeard (sameAwaiting_setDecoder s l _ fun _ => rfl)).heardSound sound

theorem heardSound_setDEnded (l : LineNo) (e : Option Nat) : (setDEnded l e s).heardSound :=
  ((kept_setDEnded s l e).sameHeard (sameAwaiting_setDecoder s l _ fun _ => rfl)).heardSound sound

theorem heardSound_discardStream (l : LineNo) : (discardStream l s).heardSound :=
  ((kept_discardStream s l).sameHeard (sameAwaiting_discardStream s l)).heardSound sound

theorem heardSound_peerSymbolAlone (l : LineNo) (y : Sym) (d : Nat) : (peerSymbolAlone l y d s).heardSound := by
  have noted := heardSound_setDEnded sound l
  unfold peerSymbolAlone; split
  · exact heardSound_setDEnded (heardSound_setStream sound l _) l none
  · split
    · exact noted _
    · split
      · exact heardSound_setOccupant (noted none) l _
      · exact noted none

theorem heardSound_endStream (l : LineNo) (st : Stream) : (endStream l st s).heardSound := by
  unfold endStream; split
  · rename_i valid
    exact heardSound_takeBlock (heardSound_setStream sound l none) l valid
  · exact heardSound_discardStream sound l

theorem heardSound_peerSymbol (l : LineNo) (y : Sym) (d : Nat) : (peerSymbol l y d s).heardSound := by
  have alone := heardSound_peerSymbolAlone (heardSound_discardStream sound l) l y d
  unfold peerSymbol; split
  · exact heardSound_peerSymbolAlone sound l y d
  · split
    · exact alone
    · split
      · exact heardSound_endStream sound l _
      · split
        · exact heardSound_setStream sound l _
        · exact alone

/-! ### Acknowledgements heard (R130) -/

/-- The entry acknowledged keeps its key, its place and its heard time. -/
theorem heardSound_acked (key : HeardKey) (order : Nat) :
    State.heardSound { s with listener := { s.listener with
      heard := s.listener.heard.map fun e => if e.key = key then e.acked order else e, ackCount := order } } := by
  obtain ⟨few, distinct, entries, ordered, named⟩ := sound
  let mark (e : HeardEntry) : HeardEntry := if e.key = key then e.acked order else e
  have same (e : HeardEntry) : (mark e).key = e.key ∧ (mark e).heard = e.heard := by
    dsimp only [mark]; split <;> exact ⟨rfl, rfl⟩
  have keys : (s.listener.heard.map mark).map (·.key) = s.listener.heard.map (·.key) := by
    rw [List.map_map]; exact List.map_congr_left fun e _ => (same e).1
  refine ⟨by rwa [List.length_map], keys ▸ distinct, fun e mem => ?_, ?_, fun l a k is names => keys ▸ named l a k is names⟩
  · obtain ⟨x, old, rfl⟩ := List.mem_map.1 mem
    have unchanged := entries x old
    rw [← (same x).1, ← (same x).2] at unchanged
    exact unchanged
  · rw [List.pairwise_map]
    exact ordered.imp fun {a b} le => by rw [(same a).2, (same b).2]; exact le

theorem heardSound_actOnAcknowledged (e : HeardEntry) : (actOnAcknowledged e s).heardSound := by
  have kept := (andKinds_actOnAcknowledged s e).kept
  have same : SameHeard s (actOnAcknowledged e s) :=
    ⟨heard_actOnAcknowledged e s, (acts_actOnAcknowledged s e).sameAwaiting, kept.settings, kept.clock.ge⟩
  exact same.heardSound sound

theorem heardSound_peerAck (l : LineNo) : (peerAck l s).heardSound := by
  have taken := heardSound_awaitNothing sound l
  unfold peerAck; split
  · exact sound
  · split
    · dsimp only; split
      · rename_i key _
        have acked := heardSound_acked taken key (s.listener.ackCount + 1)
        unfold acknowledgeHeard; dsimp only; split
        · exact heardSound_actOnAcknowledged acked _
        · exact acked
      · exact taken
    · exact sound

end

end Sys2Proof.Machine
end

section
/-! The input line buffer (R161, R162): at most 64 characters, and lines that wait only behind an answer. -/

namespace Sys2Proof.Machine

/-! ### The characters held -/

/-- The characters of the lines waiting. -/
def waitingLength (ls : List PortLine) : Nat := (ls.map fun w => w.chars.length).sum

theorem foldl_waiting (ls : List PortLine) (n : Nat) :
    ls.foldl (fun n w => n + w.chars.length) n = n + waitingLength ls := by
  induction ls generalizing n with
  | nil => rfl
  | cons w ls ih => rw [List.foldl_cons, ih, waitingLength, waitingLength, List.map_cons, List.sum_cons, Nat.add_assoc]

theorem Port.held_eq (p : Port) : p.held = p.receiving.chars.length + waitingLength p.waiting := foldl_waiting _ _

theorem waitingLength_cons (w : PortLine) (ls : List PortLine) : waitingLength (w :: ls) = w.chars.length + waitingLength ls := rfl

theorem waitingLength_concat (w : PortLine) (ls : List PortLine) : waitingLength (ls ++ [w]) = waitingLength ls + w.chars.length := by
  simp [waitingLength]

section
variable {s t u : State}

theorem portSound_congr (port : t.port = s.port) (sound : s.portSound) : t.portSound := by
  unfold State.portSound; rw [port]; exact sound

theorem portSound_of_fresh (port : s.port = freshPort) : s.portSound := by
  unfold State.portSound; rw [port]; exact ⟨Nat.zero_le _, fun _ => rfl⟩

/-- While an answer is being sent only the buffer's size matters. -/
theorem portSound_of_answer (answer : s.port.answer.isSome = true) (room : s.port.held ≤ 64) : s.portSound :=
  ⟨room, fun none => by simp [none] at answer⟩

/-! ### Answers (R161, R163) -/

/-- An answer has begun, and the buffer is as it was. -/
structure Answered (s t : State) : Prop where
  answer : t.port.answer.isSome = true
  waiting : t.port.waiting = s.port.waiting
  receiving : t.port.receiving = s.port.receiving

theorem Answered.held (h : Answered s t) : t.port.held = s.port.held := by
  rw [Port.held_eq, Port.held_eq, h.waiting, h.receiving]

theorem Answered.portSound (h : Answered s t) (sound : s.portSound) : t.portSound :=
  portSound_of_answer h.answer (h.held.trans_le sound.1)

/-- What leaves the port alone is answered. -/
theorem answered_sendAnswer (port : t.port = s.port) (ls : List Text) (restart : Bool) : Answered s (sendAnswer ls restart t) := by
  have waiting := congrArg Port.waiting port
  have receiving := congrArg Port.receiving port
  exact ⟨rfl, waiting, receiving⟩

theorem answered_onChannel (n : Nat) (act : ChannelNo → State → State) (one : ∀ c, (act c s).port = s.port) :
    Answered s (onChannel n act s) := by
  unfold onChannel; split
  · exact answered_sendAnswer rfl _ _
  · split
    · exact answered_sendAnswer rfl _ _
    · exact answered_sendAnswer (one _) _ _

theorem answered_doTest (s : State) : Answered s (doTest s) := by
  unfold doTest; split
  · exact answered_sendAnswer rfl _ _
  · exact answered_sendAnswer (kept_handReport s _).port _ _

theorem answered_doAbort (s : State) : Answered s (doAbort s) := by
  have aborted : Kept s (if s.access.state ≠ .idle then abortAcquisition s else s) := by
    split
    · exact kept_abortAcquisition s
    · exact .refl s
  unfold doAbort; dsimp only; split
  · refine answered_sendAnswer ?_ _ _
    split
    · exact (aborted.trans (kept_endCall _ _)).port
    · exact aborted.port
  · exact answered_sendAnswer rfl _ _

/-- Every command is answered (R163). -/
theorem answered_doCommand (p : PortCommand) (s : State) : Answered s (doCommand p s) := by
  cases p
  case hist n => unfold doCommand doHist; dsimp only; split <;> exact answered_sendAnswer rfl _ _
  case chan n => unfold doCommand doChan; dsimp only; split <;> exact answered_sendAnswer rfl _ _
  case ack => exact answered_sendAnswer (s := s) (t := acknowledgeTroubles s) rfl _ _
  case bypass n => exact answered_onChannel n _ fun c => (onlyChannel_bypassChannel s c).kept.port
  case unbypass n => exact answered_onChannel n _ fun c => (onlyChannel_unbypassChannel s c).kept.port
  case test => exact answered_doTest s
  case abort => exact answered_doAbort s
  all_goals exact answered_sendAnswer rfl _ _

/-- A line taken is blank, or answered (R162). -/
theorem takeLine_cases (w : PortLine) (s : State) : takeLine w s = s ∨ Answered s (takeLine w s) := by
  unfold takeLine; split
  · exact .inr (answered_sendAnswer rfl _ _)
  · split
    · exact .inl rfl
    · split
      · exact .inr (answered_doCommand _ s)
      · exact .inr (answered_sendAnswer rfl _ _)

theorem portSound_takeLine (w : PortLine) (sound : s.portSound) : (takeLine w s).portSound := by
  obtain blank | answered := takeLine_cases w s
  · rw [blank]; exact sound
  · exact answered.portSound sound

/-! ### Lines and characters -/

/-- Waiting lines are taken until one is answered, and those behind it wait on: the buffer holds no more than before (R162). -/
theorem portSound_takeWaiting : ∀ (ls : List PortLine) (s : State), s.port.receiving.chars.length + waitingLength ls ≤ 64 →
    (takeWaiting ls s).portSound
  | [], s, room => ⟨(Port.held_eq _).trans_le room, fun _ => rfl⟩
  | w :: ls, s, room => by
    rw [waitingLength_cons] at room
    unfold takeWaiting; dsimp only; split
    · rename_i answer
      have receiving : (takeLine w s).port.receiving = s.port.receiving := by
        obtain blank | answered := takeLine_cases w s
        · rw [blank]
        · exact answered.receiving
      refine portSound_of_answer answer ?_
      rw [Port.held_eq, State.setPort_port, receiving]
      dsimp only
      omega
    · rename_i unanswered
      have blank := (takeLine_cases w s).resolve_right fun answered => unanswered answered.answer
      rw [blank]
      exact portSound_takeWaiting ls s (by omega)

/-- A line completed moves from the line being received to those waiting, or is taken (R162). -/
theorem portSound_completeLine (sound : s.portSound) :
    (completeLine s.port.receiving (s.setPort fun p => { p with receiving := ⟨[], false⟩ })).portSound := by
  obtain ⟨room, waiting⟩ := sound
  rw [Port.held_eq] at room
  unfold completeLine; split
  · rename_i answer
    refine portSound_of_answer answer ?_
    rw [Port.held_eq]
    simp only [State.setPort_port, waitingLength_concat, List.length_nil]
    omega
  · refine portSound_takeLine _ ⟨?_, waiting⟩
    rw [Port.held_eq]
    simp only [State.setPort_port, List.length_nil]
    omega

/-- A character is appended where the buffer has room (R161). -/
theorem portSound_appendChar (x : Char) (sound : s.portSound) : (s.setPort (appendChar x)).portSound := by
  obtain ⟨room, waiting⟩ := sound
  unfold State.portSound
  rw [State.setPort_port]
  unfold appendChar; split
  · rename_i free
    refine ⟨?_, waiting⟩
    rw [Port.held_eq] at free ⊢
    simp only [List.length_append, List.length_singleton]
    omega
  · exact ⟨room, waiting⟩

theorem portSound_takeCharacter (code : Nat) (sound : s.portSound) : (takeCharacter code s).portSound := by
  unfold takeCharacter; split
  · exact portSound_appendChar _ sound
  · split
    · exact portSound_completeLine sound
    · split
      · obtain ⟨room, waiting⟩ := sound
        refine ⟨?_, waiting⟩
        rw [Port.held_eq] at room ⊢
        simp only [State.setPort_port, List.length_dropLast]
        omega
      · exact sound

/-- A command given whole waits cut to the room the buffer has (R161, R162). -/
theorem portSound_giveCommand (p : PortCommand) (sound : s.portSound) : (giveCommand p (doCommand p) s).portSound := by
  obtain ⟨_, h⟩ | ⟨_, _, _, h⟩ | ⟨_, _, _, h⟩ | ⟨_, answer, h⟩ := giveCommand_cases s p (doCommand p) <;> rw [h]
  · exact sound
  · exact (answered_doCommand p s).portSound sound
  · exact (answered_sendAnswer rfl _ _ : Answered s _).portSound sound
  · refine portSound_of_answer answer ?_
    have room := sound.1
    have size := Port.held_eq s.port
    rw [Port.held_eq]
    simp only [State.setPort_port, waitingLength_concat, List.length_take]
    omega

theorem portSound_portEvent {i : Instr} (port : portEvent i = true) (taken : exec i s = .next t) (sound : s.portSound) :
    t.portSound := by
  cases i <;> cases port <;> unfold exec at taken
  case characterReceived code _ =>
    exact of_whenDue (R := fun s t => s.portSound → t.portSound) taken id (portSound_takeCharacter _) sound
  case ident => cases taken; exact portSound_giveCommand .ident sound
  case status => cases taken; exact portSound_giveCommand .status sound
  case queue => cases taken; exact portSound_giveCommand .queue sound
  case hist n => cases taken; exact portSound_giveCommand (.hist n) sound
  case lines => cases taken; exact portSound_giveCommand .lines sound
  case chan n => cases taken; exact portSound_giveCommand (.chan n) sound
  case trouble => cases taken; exact portSound_giveCommand .trouble sound
  case ack => cases taken; exact portSound_giveCommand .ack sound
  case bypass n => cases taken; exact portSound_giveCommand (.bypass n) sound
  case unbypass n => cases taken; exact portSound_giveCommand (.unbypass n) sound
  case test => cases taken; exact portSound_giveCommand .test sound
  case abort => cases taken; exact portSound_giveCommand .abort sound
  case restart => cases taken; exact portSound_giveCommand .restart sound

end

end Sys2Proof.Machine
end

section
/-! Every event and every step: the start and what is known of it, the heard table and the port (R128, R129, R151, R158, R159, R161,
R162). -/

namespace Sys2Proof.Machine

/-! ### What stands outside a start -/

/-- Two states with the same clock, supply, start pin and phase, under the same settings. -/
structure SameStart (s t : State) : Prop where
  now : t.now = s.now
  supply : t.supply = s.supply
  pinLow : t.pinLow = s.pinLow
  phase : t.phase = s.phase
  settings : t.settings = s.settings

section
variable {s t u : State}

/-- What `Kept` names of the start, from a state that agrees with another on it. -/
theorem Kept.sameStart (kept : Kept u t) (same : SameStart s u) : SameStart s t :=
  ⟨kept.now.trans same.now, kept.supply.trans same.supply, kept.pinLow.trans same.pinLow, kept.phase.trans same.phase,
    kept.settings.trans same.settings⟩

theorem SameStart.clock (same : SameStart s t) : t.clock = s.clock := by
  simp [State.clock, State.running, same.phase, same.now]

theorem SameStart.startSound (same : SameStart s t) (sound : s.startSound) : t.startSound := by
  unfold State.startSound
  rw [same.supply, same.pinLow, same.phase]
  exact sound

theorem SameStart.sameHeard (same : SameStart s t) (heard : t.listener.heard = s.listener.heard)
    (awaiting : SameAwaiting s t) : SameHeard s t :=
  ⟨heard, awaiting, same.settings, same.clock.ge⟩

/-- No event but those of a start changes the clock, the supply, the pin, the phase or the settings. -/
theorem sameStart_exec {i : Instr} (start : startEvent i = false) (taken : exec i s = .next t) : SameStart s t := by
  obtain ⟨_, _, one⟩ | ⟨_, _, port⟩ | ⟨_, port⟩ | ⟨_, peer⟩ | ⟨_, peer⟩ | ⟨_, peer⟩ | ⟨peer, _⟩ :=
    exec_frame_cases s start taken
  · exact one.kept.sameStart ⟨rfl, rfl, rfl, rfl, rfl⟩
  · exact port.kept.sameStart ⟨rfl, rfl, rfl, rfl, rfl⟩
  · exact port.kept.sameStart ⟨rfl, rfl, rfl, rfl, rfl⟩
  all_goals exact peer.kept.sameStart ⟨rfl, rfl, rfl, rfl, rfl⟩

/-! ### The listener's events -/

theorem heardSound_symbolReport (sound : s.heardSound) {l : LineNo} {p : TonePair} {d : Nat}
    (taken : exec (.symbolReport l p d) s = .next t) : t.heardSound := by
  unfold exec at taken
  refine of_whenDue (R := fun s t => s.heardSound → t.heardSound) taken id (fun sound => ?_) sound
  have noted : (noteHeard l id s).heardSound := SameHeard.heardSound ⟨rfl, fun _ => rfl, rfl, le_rfl⟩ sound
  split
  · rename_i y _
    unfold reportSymbol
    obtain h | h | h := routeTone_cases l (callSymbol y d) (peerSymbol l y d) (noteHeard l id s) <;> rw [h]
    · exact ((kept_callSymbol _ y d).sameHeard (acts_callSymbol _ y d).sameAwaiting).heardSound noted
    · exact noted
    · exact heardSound_peerSymbol noted l y d
  · exact sound

theorem heardSound_ackRecognised (sound : s.heardSound) {l : LineNo} {f : Nat} (taken : exec (.ackRecognised l f) s = .next t) :
    t.heardSound := by
  unfold exec at taken
  refine of_whenDue (R := fun s t => s.heardSound → t.heardSound) taken id (fun sound => ?_) sound
  have noted : (noteHeard l (fun ln => { ln with ackHeard := true }) s).heardSound :=
    SameHeard.heardSound ⟨rfl, fun _ => rfl, rfl, le_rfl⟩ sound
  obtain h | h | h := routeTone_cases l callAck (fun t => peerAck l (discardStream l t))
    (noteHeard l (fun ln => { ln with ackHeard := true }) s) <;> rw [h]
  · exact ((kept_callAck _).sameHeard (acts_callAck _).sameAwaiting).heardSound noted
  · exact noted
  · exact heardSound_peerAck (heardSound_discardStream noted l) l

/-- The four events that change the heard table or what is awaited (R127 to R130). -/
theorem heardSound_hearingEvent (sound : s.heardSound) {i : Instr} (hearing : hearingEvent i = true) (taken : exec i s = .next t) :
    t.heardSound := by
  cases i <;> cases hearing
  case symbolReport => exact heardSound_symbolReport sound taken
  case ackRecognised => exact heardSound_ackRecognised sound taken
  case heardEntryExpiry key =>
    unfold exec at taken
    exact of_whenDue (R := fun s t => s.heardSound → t.heardSound) taken id (fun sound => heardSound_forgetHeard sound key) sound
  case awaitingAckDeadline l =>
    unfold exec at taken
    exact of_whenDue (R := fun s t => s.heardSound → t.heardSound) taken id (fun sound => heardSound_awaitNothing sound l) sound

/-- What happens outside a start keeps the heard table sound. -/
theorem heardSound_exec (sound : s.heardSound) {i : Instr} (start : startEvent i = false) (taken : exec i s = .next t) :
    t.heardSound := by
  cases hearing : hearingEvent i with
  | true => exact heardSound_hearingEvent sound hearing taken
  | false =>
    obtain ⟨-, -, -, heard, -⟩ := Proofs.frameOfChannelsHeardAndPort i s t taken start
    refine ((sameStart_exec start taken).sameHeard (heard ?_ ?_ ?_) (sameAwaiting_exec s start hearing taken)).heardSound sound
    all_goals intros; rintro rfl; cases hearing

theorem portSound_exec (sound : s.portSound) {i : Instr} (start : startEvent i = false) (taken : exec i s = .next t) :
    t.portSound := by
  cases port : portEvent i with
  | true => exact portSound_portEvent port taken sound
  | false =>
    obtain ⟨-, -, -, -, unchanged⟩ := Proofs.frameOfChannelsHeardAndPort i s t taken start
    exact portSound_congr (unchanged port) sound

/-! ### A start (R151, R158, R159) -/

/-- Nothing heard, no acknowledgement awaited and an empty port, as a start leaves them (R137, R168). -/
structure Emptied (s : State) : Prop where
  heard : s.listener.heard = []
  awaiting : ∀ l, (s.decoder l).awaiting = none
  port : s.port = freshPort

theorem Emptied.heardSound (h : Emptied s) : s.heardSound := heardSound_of_nothing h.heard h.awaiting

theorem Emptied.portSound (h : Emptied s) : s.portSound := portSound_of_fresh h.port

theorem Emptied.of_fresh (listener : s.listener = freshListener) (port : s.port = freshPort) : Emptied s :=
  ⟨by rw [listener]; rfl, fun l => by simp [State.decoder, listener, freshListener, freshDecoder], port⟩

theorem Emptied.kept (h : Emptied s) (kept : Kept s t) (awaiting : SameAwaiting s t) : Emptied t :=
  ⟨kept.heard.trans h.heard, fun l => (awaiting l).trans (h.awaiting l), kept.port.trans h.port⟩

theorem tryRead_cases (s : State) : tryRead s = s ∨
    (s.supply = .up ∧ s.pinLow = false ∧
      tryRead s = { s with phase := .reading s.now, loader := { s.loader with clampCount := 0 } }) := by
  unfold tryRead; split
  · rename_i free; exact .inr ⟨free.1, free.2, rfl⟩
  · exact .inl rfl

theorem emptied_beginStart (cause : StartCause) (s : State) : Emptied (tryRead (beginStart cause s)) := by
  obtain h | ⟨-, -, h⟩ := tryRead_cases (beginStart cause s) <;> rw [h] <;> exact .of_fresh rfl rfl

theorem kept_endRead (bytes : Option (List Byte)) (s : State) :
    Kept (afterRead (loadImage bytes).1 (loadImage bytes).2.1 s) (endRead bytes s) := by
  have started := kept_handReport (afterRead (loadImage bytes).1 (loadImage bytes).2.1 s) (startReport s.startCause)
  unfold endRead; dsimp only; split
  · exact started.trans (kept_tellTrouble _ _ _)
  · exact started

theorem emptied_endRead (bytes : Option (List Byte)) (s : State) : Emptied (endRead bytes s) := by
  have fresh : Emptied (afterRead (loadImage bytes).1 (loadImage bytes).2.1 s) := .of_fresh rfl rfl
  refine fresh.kept (kept_endRead bytes s) ?_
  have started := (acts_handReport (afterRead (loadImage bytes).1 (loadImage bytes).2.1 s) (startReport s.startCause)).sameAwaiting
  unfold endRead; dsimp only; split
  · exact started.trans (acts_tellTrouble _ _ _).sameAwaiting
  · exact started

theorem startSound_tryRead (sound : s.startSound) : (tryRead s).startSound := by
  obtain h | ⟨up, high, h⟩ := tryRead_cases s <;> rw [h]
  · exact sound
  · exact fun _ => ⟨up, high⟩

/-- The end of an image read leaves the supply up and the pin high, for they were so while it lasted. -/
theorem startSound_endRead (sound : s.startSound) (bytes : Option (List Byte)) {since : Nat} (reading : s.phase = .reading since) :
    (endRead bytes s).startSound := by
  obtain ⟨up, high⟩ := sound (by simp [reading])
  have kept := kept_endRead bytes s
  exact fun _ => ⟨kept.supply.trans up, kept.pinLow.trans high⟩

/-- Supply or pin holds the part in start only at the beginning of one, where the clock is held at 0 (R159). -/
theorem clock_of_heldInStart (sound : s.startSound) (held : s.supply ≠ .up ∨ s.pinLow = true) : s.clock = 0 := by
  have starting : s.phase = .starting := by
    by_contra past
    obtain ⟨up, high⟩ := sound past
    rcases held with down | low
    · exact down up
    · simp [high] at low
  simp [State.clock, State.running, starting]

/-- What may begin an image read touches nothing of the peer listener, the port or the settings. -/
theorem sameHeard_tryRead (same : u.listener = s.listener) (settings : u.settings = s.settings) (clock : s.clock = 0) :
    SameHeard s (tryRead u) := by
  have low (v : State) : s.clock ≤ v.clock := by rw [clock]; exact Nat.zero_le _
  obtain h | ⟨-, -, h⟩ := tryRead_cases u <;> rw [h]
  · exact ⟨by rw [same], .of_listener same, settings, low _⟩
  · exact ⟨by rw [← same], .of_listener same, settings, low _⟩

theorem port_tryRead (s : State) : (tryRead s).port = s.port := by
  obtain h | ⟨-, -, h⟩ := tryRead_cases s <;> rw [h]

/-! ### The end of an answer (R162, R168) -/

theorem onlyPortAndChannels_takeWaiting : ∀ (ls : List PortLine) (s : State), OnlyPortAndChannels s (takeWaiting ls s)
  | [], s => (onlyPort_setPort s _).andChannels
  | w :: ls, s => by
    have taken := (onlyPortAndChannels_takeLine s w).kept
    have then_ {v : State} (rest : OnlyPortAndChannels (takeLine w s) v) : OnlyPortAndChannels s v :=
      ⟨((taken.withPort v.port).withChannels v.channels).trans rest.kept⟩
    unfold takeWaiting; dsimp only; split
    · exact then_ (onlyPort_setPort _ _).andChannels
    · exact then_ (onlyPortAndChannels_takeWaiting ls _)

/-- What an answer's end that begins no start leaves. -/
def answerTaken (a : Answer) (s : State) : State :=
  (takeWaiting s.port.waiting (s.setPort fun p => { p with answer := none })).answerEarlier (24 * s.now - a.ends)

theorem endAnswer_cases (s : State) : endAnswer s = s ∨ endAnswer s = tryRead (beginStart .restart s) ∨
    ∃ a, endAnswer s = answerTaken a s := by
  unfold endAnswer; split
  · exact .inl rfl
  · split
    · exact .inr (.inl rfl)
    · exact .inr (.inr ⟨_, rfl⟩)

theorem onlyPortAndChannels_answerTaken (a : Answer) (s : State) : OnlyPortAndChannels s (answerTaken a s) := by
  have waiting := onlyPortAndChannels_takeWaiting s.port.waiting (s.setPort fun p => { p with answer := none })
  have taken := (onlyPort_setPort s _).thenChannels waiting
  exact ⟨taken.kept.withPort _⟩

theorem sameAwaiting_answerTaken (a : Answer) (s : State) : SameAwaiting s (answerTaken a s) := by
  have taken : SameAwaiting s (takeWaiting s.port.waiting (s.setPort fun p => { p with answer := none })) :=
    Acts.sameAwaiting ((acts_setPort s _).trans (acts_takeWaiting _ _))
  exact taken.trans (.of_listener rfl)

theorem portSound_answerTaken (a : Answer) (sound : s.portSound) : (answerTaken a s).portSound := by
  obtain ⟨room, waiting⟩ := portSound_takeWaiting s.port.waiting (s.setPort fun p => { p with answer := none })
    ((Port.held_eq s.port).symm.trans_le sound.1)
  exact ⟨room, fun none => waiting (Option.map_eq_none_iff.1 none)⟩

/-! ### The start family -/

theorem startSound_whenDue {b : Bool} {f : State → State} (sound : s.startSound) (taken : whenDue b f s = .next t)
    (effect : b = true → (f s).startSound) : t.startSound := by
  obtain ⟨due, h⟩ | ⟨_, h⟩ := whenDue_cases s b f <;> cases h.symm.trans taken
  · exact effect due
  · exact sound

theorem reading_of_imageReadEndDue {image : List Byte} (due : imageReadEndDue image s = true) : ∃ since, s.phase = .reading since := by
  cases phase : s.phase <;> simp [imageReadEndDue, phase] at due ⊢

theorem reading_of_imageReadTimeoutDue (due : imageReadTimeoutDue s = true) : ∃ since, s.phase = .reading since := by
  cases phase : s.phase <;> simp [imageReadTimeoutDue, phase] at due ⊢

theorem startSound_startEvent (sound : s.startSound) {i : Instr} (start : startEvent i = true) (taken : exec i s = .next t) :
    t.startSound := by
  have fresh (cause : StartCause) : (beginStart cause s).startSound := fun past => absurd rfl past
  cases i <;> cases start <;> unfold exec at taken
  case powerUp | supplyFailure => cases taken; exact fun past => absurd rfl past
  case powerStable =>
    exact startSound_whenDue sound taken fun _ => startSound_tryRead fun past => ⟨rfl, (sound past).2⟩
  case startPinLow => exact startSound_whenDue sound taken fun _ past => absurd rfl past
  case startPinRelease =>
    have released : ({ s with pinLow := false } : State).startSound := fun past => ⟨(sound past).1, rfl⟩
    refine startSound_whenDue sound taken fun _ => ?_
    split
    · exact startSound_tryRead released
    · exact released
  case imageReadEnd =>
    refine startSound_whenDue sound taken fun due => ?_
    obtain ⟨_, reading⟩ := reading_of_imageReadEndDue due
    exact startSound_endRead sound _ reading
  case imageReadTimeout =>
    refine startSound_whenDue sound taken fun due => ?_
    obtain ⟨_, reading⟩ := reading_of_imageReadTimeoutDue due
    exact startSound_endRead sound _ reading
  case answerEnd =>
    refine startSound_whenDue sound taken fun _ => ?_
    obtain h | h | ⟨a, h⟩ := endAnswer_cases s <;> rw [h]
    · exact sound
    · exact startSound_tryRead (fresh _)
    · exact ((onlyPortAndChannels_answerTaken a s).kept.sameStart ⟨rfl, rfl, rfl, rfl, rfl⟩).startSound sound

/-- What a start event does to the heard table and the port: both are emptied; both stay, with the clock held at 0 before; or an answer
has ended and waiting lines have been taken. -/
theorem startEvent_cases {i : Instr} (start : startEvent i = true) (taken : exec i s = .next t) :
    t = s ∨ Emptied t ∨ (t.port = s.port ∧ (s.startSound → SameHeard s t)) ∨ ∃ a, t = answerTaken a s := by
  cases i <;> cases start <;> unfold exec at taken
  case powerUp | supplyFailure => cases taken; exact .inr (.inl (.of_fresh rfl rfl))
  case powerStable =>
    obtain ⟨due, h⟩ | ⟨_, h⟩ := whenDue_cases s (powerStableDue s) _ <;> cases h.symm.trans taken
    · have down : s.supply ≠ .up := fun up => by simp [powerStableDue, up] at due
      exact .inr (.inr (.inl ⟨port_tryRead _, fun sound => sameHeard_tryRead rfl rfl (clock_of_heldInStart sound (.inl down))⟩))
    · exact .inl rfl
  case startPinLow =>
    obtain ⟨_, h⟩ | ⟨_, h⟩ := whenDue_cases s (s.supply ≠ .down) _ <;> cases h.symm.trans taken
    · exact .inr (.inl (.of_fresh rfl rfl))
    · exact .inl rfl
  case startPinRelease =>
    obtain ⟨low, h⟩ | ⟨_, h⟩ := whenDue_cases s s.pinLow _ <;> cases h.symm.trans taken
    · refine .inr (.inr (.inl ?_))
      have held (sound : s.startSound) := clock_of_heldInStart sound (.inr low)
      split
      · exact ⟨port_tryRead _, fun sound => sameHeard_tryRead rfl rfl (held sound)⟩
      · exact ⟨rfl, fun sound => ⟨rfl, fun _ => rfl, rfl, le_rfl⟩⟩
    · exact .inl rfl
  case imageReadEnd image =>
    obtain ⟨_, h⟩ | ⟨_, h⟩ := whenDue_cases s (imageReadEndDue image s) _ <;> cases h.symm.trans taken
    · exact .inr (.inl (emptied_endRead _ s))
    · exact .inl rfl
  case imageReadTimeout =>
    obtain ⟨_, h⟩ | ⟨_, h⟩ := whenDue_cases s (imageReadTimeoutDue s) _ <;> cases h.symm.trans taken
    · exact .inr (.inl (emptied_endRead _ s))
    · exact .inl rfl
  case answerEnd =>
    obtain ⟨_, h⟩ | ⟨_, h⟩ := whenDue_cases s (answerEndDue s) _ <;> cases h.symm.trans taken
    · obtain h | h | ⟨a, h⟩ := endAnswer_cases s <;> rw [h]
      · exact .inl rfl
      · exact .inr (.inl (emptied_beginStart _ s))
      · exact .inr (.inr (.inr ⟨a, rfl⟩))
    · exact .inl rfl

theorem heardSound_startEvent (onStart : s.startSound) (sound : s.heardSound) {i : Instr} (start : startEvent i = true)
    (taken : exec i s = .next t) : t.heardSound := by
  obtain rfl | emptied | ⟨-, same⟩ | ⟨a, rfl⟩ := startEvent_cases start taken
  · exact sound
  · exact emptied.heardSound
  · exact (same onStart).heardSound sound
  · have kept := (onlyPortAndChannels_answerTaken a s).kept
    exact ((kept.sameStart ⟨rfl, rfl, rfl, rfl, rfl⟩).sameHeard kept.heard (sameAwaiting_answerTaken a s)).heardSound sound

theorem portSound_startEvent (sound : s.portSound) {i : Instr} (start : startEvent i = true) (taken : exec i s = .next t) :
    t.portSound := by
  obtain rfl | emptied | ⟨same, -⟩ | ⟨a, rfl⟩ := startEvent_cases start taken
  · exact sound
  · exact emptied.portSound
  · exact portSound_congr same sound
  · exact portSound_answerTaken a sound

/-! ### Every step -/

/-- What a command keeps of the start, of the heard table and of the port. -/
structure KeepsSound (s t : State) : Prop where
  start : s.startSound → t.startSound
  heard : s.startSound → s.heardSound → t.heardSound
  port : s.portSound → t.portSound

theorem keepsSound_exec {i : Instr} (taken : exec i s = .next t) : KeepsSound s t := by
  cases start : startEvent i with
  | true =>
    exact ⟨fun sound => startSound_startEvent sound start taken,
      fun onStart sound => heardSound_startEvent onStart sound start taken, fun sound => portSound_startEvent sound start taken⟩
  | false =>
    exact ⟨(sameStart_exec start taken).startSound, fun _ sound => heardSound_exec sound start taken,
      fun sound => portSound_exec sound start taken⟩

/-- A millisecond that passes takes the clock on. -/
theorem clock_tick (s : State) : s.clock ≤ (tick s).clock := by
  have running : (tick s).running = s.running := rfl
  have now : (tick s).now = s.now + 1 := rfl
  unfold State.clock
  rw [running, now]
  split <;> omega

theorem keepsSound_step (taken : step s = .next t) : KeepsSound s t := by
  unfold step at taken; split at taken
  · have keeps := keepsSound_exec taken
    exact ⟨keeps.start, keeps.heard, keeps.port⟩
  · split at taken
    · have keeps := keepsSound_exec taken
      exact ⟨keeps.start, keeps.heard, keeps.port⟩
    · cases taken
      exact ⟨id, fun _ => SameHeard.heardSound ⟨rfl, fun _ => rfl, rfl, clock_tick s⟩, id⟩

end

end Sys2Proof.Machine

namespace Sys2Proof.Proofs
open Sys2Proof Sys2Proof.Machine

/-- Settles O60: the start family by its cases (`startEvent_cases`), the peer listener's events on the heard table, the port's on the
buffer, and every other event by what it leaves alone. -/
theorem stepsKeepHeardAndPort : Obligations.Steps_keep_heard_and_port := fun _ _ taken =>
  have keeps := keepsSound_step taken
  ⟨fun sound => ⟨keeps.start sound, keeps.heard sound⟩, keeps.port⟩

end Sys2Proof.Proofs
end

section
/-! Coverage on entry: the standing word of a class and group, and the peer listener's answer (R132, R134). -/

namespace Sys2Proof.Machine

/-! ### The standing word (R132) -/

/-- One entry speaks no later than another: it was heard before, or at the same second and its acknowledgement counted no later. -/
def HeardEntry.noLater (a b : HeardEntry) : Prop := a.heard < b.heard ∨ (a.heard = b.heard ∧ a.ackOrder ≤ b.ackOrder)

theorem HeardEntry.noLater_refl (a : HeardEntry) : a.noLater a := .inr ⟨rfl, le_rfl⟩

theorem HeardEntry.noLater_trans {a b c : HeardEntry} (h : a.noLater b) (k : b.noLater c) : a.noLater c := by
  unfold HeardEntry.noLater at *; omega

/-- Of two entries the later word is one, and neither is later than it. -/
theorem laterWord_spec (a b : HeardEntry) :
    (laterWord a b = a ∨ laterWord a b = b) ∧ a.noLater (laterWord a b) ∧ b.noLater (laterWord a b) := by
  unfold laterWord; split
  · rename_i later; exact ⟨.inr rfl, later, b.noLater_refl⟩
  · rename_i earlier
    refine ⟨.inl rfl, a.noLater_refl, ?_⟩
    unfold HeardEntry.noLater; omega

/-- The latest word so far, if there is one, and one more entry. -/
def latestWord : Option HeardEntry → HeardEntry → Option HeardEntry
  | none, e => some e
  | some b, e => some (laterWord b e)

/-- The latest word of a list that goes on from a word. -/
theorem foldl_latestWord (es : List HeardEntry) (b : HeardEntry) :
    ∃ w, es.foldl latestWord (some b) = some w ∧ (w = b ∨ w ∈ es) ∧ b.noLater w ∧ ∀ e ∈ es, e.noLater w := by
  induction es generalizing b with
  | nil => exact ⟨b, rfl, .inl rfl, b.noLater_refl, by simp⟩
  | cons x es ih =>
    obtain ⟨w, latest, among, after, all⟩ := ih (laterWord b x)
    obtain ⟨one, first, second⟩ := laterWord_spec b x
    refine ⟨w, latest, ?_, HeardEntry.noLater_trans first after, fun e mem => ?_⟩
    · rcases among with rfl | mem
      · exact one.imp_right fun isNew => List.mem_cons.2 (.inl isNew)
      · exact .inr (List.mem_cons_of_mem _ mem)
    · rcases List.mem_cons.1 mem with rfl | mem
      · exact HeardEntry.noLater_trans second after
      · exact all e mem

/-- The entries that may be the standing word of a class and a group. -/
def State.acknowledgedWords (s : State) (c : ReportClass) (g : Nat) : List HeardEntry :=
  s.listener.heard.filter fun e => e.acknowledged && e.key.cls = c && e.key.group = g

theorem mem_acknowledgedWords {s : State} {c : ReportClass} {g : Nat} {e : HeardEntry} :
    e ∈ s.acknowledgedWords c g ↔ e ∈ s.listener.heard ∧ e.acknowledged = true ∧ e.key.cls = c ∧ e.key.group = g := by
  simp [State.acknowledgedWords, and_assoc]

theorem standingWord_eq (s : State) (c : ReportClass) (g : Nat) :
    s.standingWord c g = (s.acknowledgedWords c g).foldl latestWord none := by
  unfold State.standingWord
  congr 1
  funext best e
  cases best <;> rfl

theorem standingWord_none {s : State} {c : ReportClass} {g : Nat} (none : s.standingWord c g = none) :
    s.acknowledgedWords c g = [] := by
  rw [standingWord_eq] at none
  cases words : s.acknowledgedWords c g with
  | nil => rfl
  | cons x es =>
    rw [words] at none
    obtain ⟨w, is, -⟩ := foldl_latestWord es x
    cases is.symm.trans none

theorem standingWord_some {s : State} {c : ReportClass} {g : Nat} {w : HeardEntry} (word : s.standingWord c g = some w) :
    w ∈ s.acknowledgedWords c g ∧ ∀ e ∈ s.acknowledgedWords c g, e.noLater w := by
  rw [standingWord_eq] at word
  cases words : s.acknowledgedWords c g with
  | nil => rw [words] at word; cases word
  | cons x es =>
    rw [words] at word
    obtain ⟨v, is, among, after, all⟩ := foldl_latestWord es x
    cases is.symm.trans word
    exact ⟨List.mem_cons.2 among, List.forall_mem_cons.2 ⟨after, all⟩⟩

/-! ### The answer (R134) -/

theorem coverable_iff {c : ReportClass} : coverable c = true ↔ c ∈ [ReportClass.fire, .sprinkler, .boiler] := by
  cases c <;> decide

theorem Kind.ne_status_iff {k : Kind} : k ≠ .status ↔ k = .alarm ∨ k = .restore := by cases k <;> decide

theorem consult_eq_some_iff {m : Matter} {s : State} {peer : Nat} :
    consult m s = some peer ↔ coverable m.cls = true ∧ m.qualifier.kind ≠ .status ∧ s.settings.sharedGroup m.group = true
      ∧ ∃ w, s.standingWord m.cls m.group = some w ∧ w.key.kind = m.qualifier.kind ∧ w.key.station = peer
        ∧ w.heard ≤ m.occurred + s.settings.coverage ∧ m.occurred ≤ w.heard + s.settings.coverage := by
  unfold consult
  rw [Option.ite_none_right_eq_some]
  cases s.standingWord m.cls m.group with
  | none => simp
  | some w =>
    simp only [withinWindow, Bool.and_eq_true, decide_eq_true_eq, Option.ite_none_right_eq_some, Option.some.injEq,
      exists_eq_left', and_assoc]
    tauto

/-- An acknowledgement that names an entry of a group not shared covers and raises nothing (R132, R133). -/
theorem queue_acknowledgeHeard_of_unshared {s : State} {k : HeardKey} (unshared : s.settings.sharedGroup k.group = false) :
    (acknowledgeHeard k s).queue = s.queue := by
  unfold acknowledgeHeard; dsimp only; split
  · rename_i e found
    have key : e.key = k := by simpa using List.find?_some found
    rw [actOnAcknowledged, if_neg fun stands => ?_]
    · rfl
    · have shared : s.settings.sharedGroup e.key.group = true := stands.1
      rw [key, unshared] at shared
      cases shared
  · rfl

theorem queue_peerAck_of_unshared {s : State} {l : LineNo} {a : Awaiting} {k : HeardKey} (awaited : (s.decoder l).awaiting = some a)
    (names : a.names = some k) (unshared : s.settings.sharedGroup k.group = false) : (peerAck l s).queue = s.queue := by
  by_cases late : a.deadline < s.now
  · rw [peerAck_late awaited late]
  · rw [peerAck_named awaited (Nat.le_of_not_lt late) names]
    exact queue_acknowledgeHeard_of_unshared (s := s.setDecoder l fun d => { d with awaiting := none }) unshared

end Sys2Proof.Machine

namespace Sys2Proof.Proofs
open Sys2Proof Sys2Proof.Machine

/-- Settles O18: the answer's conditions one by one (`consult_eq_some_iff`), and the standing word as the latest of the acknowledged
entries (`standingWord_some`). -/
theorem coverageOnEntry : Obligations.Coverage_on_entry := by
  unfold Obligations.Coverage_on_entry
  intro kind
  have isKind (q : Qualifier) : kind q = q.kind := by cases q <;> rfl
  refine ⟨fun m s peer => ?_, fun l s a k awaited names unshared => ?_, fun c g s => ?_⟩
  · rw [isKind, consult_eq_some_iff, coverable_iff, Kind.ne_status_iff, sharedGroup_iff, and_assoc]
  · refine queue_peerAck_of_unshared awaited names ?_
    rw [Bool.eq_false_iff, Ne, sharedGroup_iff]
    exact fun shared => unshared.elim (fun zero => shared.1 zero) fun absent => absent shared.2
  · cases word : s.standingWord c g with
    | none =>
      intro e mem cls group
      rw [Bool.eq_false_iff]
      intro acknowledged
      have isWord := mem_acknowledgedWords.2 ⟨mem, acknowledged, cls, group⟩
      simp [standingWord_none word] at isWord
    | some w =>
      obtain ⟨mem, latest⟩ := standingWord_some word
      obtain ⟨mem, acknowledged, cls, group⟩ := mem_acknowledgedWords.1 mem
      exact ⟨mem, acknowledged, cls, group, fun e mem acknowledged cls group =>
        latest e (mem_acknowledgedWords.2 ⟨mem, acknowledged, cls, group⟩)⟩

end Sys2Proof.Proofs
end

section
/-! The peer listener's own deadlines: the clash end, an acknowledgement awaited too long, and an entry heard too long ago (R129 to
R131). -/

namespace Sys2Proof.Machine

section
variable {s : State} (running : s.running = true)
include running

theorem clashEndDue_of {e : Nat} (clash : s.listener.clashEnd = some e) (reached : e ≤ s.clock) : clashEndDue s = true := by
  simp [clashEndDue, running, clash, Machine.reached, reached]

theorem awaitingDue_of {l : LineNo} {a : Awaiting} (awaited : (s.decoder l).awaiting = some a) (reached : a.deadline ≤ s.now) :
    awaitingDue l s = true := by
  simp [awaitingDue, running, awaited, Machine.reached, reached]

theorem heardExpired_of {e : HeardEntry} (mem : e ∈ s.listener.heard) (past : e.heard + s.settings.coverage < s.clock) :
    heardExpired e.key s = true := by
  simp only [heardExpired, running, Bool.true_and, List.any_eq_true]
  exact ⟨e, mem, by simp [past]⟩

end

end Sys2Proof.Machine

namespace Sys2Proof.Proofs
open Sys2Proof Sys2Proof.Machine

/-- Settles O50: each deadline falls due at its instant, and an entry that expires is forgotten with its names
(`forgetHeard_eq`). -/
theorem listenerDeadlines : Obligations.Listener_deadlines := by
  intro s running
  refine ⟨fun e clash reached => ?_, fun l a awaited reached => ?_, fun e mem past => ?_⟩
  · exact whenDue_true (clashEndDue_of running clash reached)
  · exact whenDue_true (f := fun s => s.setDecoder l fun d => { d with awaiting := none }) (awaitingDue_of running awaited reached)
  · have expired : exec (.heardEntryExpiry e.key) s = .next (forgetHeard e.key s) := whenDue_true (heardExpired_of running mem past)
    rw [expired, forgetHeard_eq]
    rfl

end Sys2Proof.Proofs
end

section
/-! The test timer's expiry: the next expiry one interval on, and a TEST report handed or a missed test counted (R148). -/

namespace Sys2Proof.Machine

section
variable {s : State} {e : Nat} (expiry : s.trouble.testExpiry = some e)
include expiry

theorem testTimerDue_of (running : s.running = true) (reached : e ≤ s.clock) : testTimerDue s = true := by
  simp [testTimerDue, running, expiry, Machine.reached, reached]

theorem expireTestTimer_of_present (present : s.testPresent 320 = true) :
    expireTestTimer s = { s with trouble := { s.trouble with
      testExpiry := some (e + 3600 * s.settings.testHours), missedTests := min (s.trouble.missedTests + 1) 255 } } := by
  simp only [expireTestTimer, present, if_true, expiry, Option.map_some, saturatingSucc]

theorem expireTestTimer_of_absent (absent : s.testPresent 320 = false) :
    expireTestTimer s = handReport (testReport 320 s.clock)
      { s with trouble := { s.trouble with testExpiry := some (e + 3600 * s.settings.testHours) } } := by
  simp only [expireTestTimer, absent, Bool.false_eq_true, if_false, expiry, Option.map_some]

end

end Sys2Proof.Machine

namespace Sys2Proof.Proofs
open Sys2Proof Sys2Proof.Machine

/-- Settles O21: the expiry is due, and what it does turns on whether a TEST report of event 320 is in the queue
(`testPresent_iff`). -/
theorem testTimerExpires : Obligations.Test_timer_expires := by
  intro e s running expiry reached present next
  have taken : exec .testTimerExpiry s = .next (expireTestTimer s) := whenDue_true (testTimerDue_of expiry running reached)
  have isPresent : s.testPresent 320 = true ↔ present := testPresent_iff s 320
  refine ⟨fun is => ?_, fun isNot => ?_⟩
  · rw [taken, expireTestTimer_of_present expiry (isPresent.2 is)]
  · rw [taken, expireTestTimer_of_absent expiry (Bool.eq_false_iff.2 fun is => isNot (isPresent.1 is)), testReport]

end Sys2Proof.Proofs
end


section
/-! The beginning of a start and of an image read, and the part right after reset (R151, R158, R159). -/

namespace Sys2Proof.Machine

/-! ### The records that the beginning of a start leaves (R159) -/

section
variable (cause : StartCause) (s : State)

@[simp] theorem beginStart_chan (c : ChannelNo) : (beginStart cause s).chan c = freshChannel defaultChannelSettings := by
  simp [beginStart, State.chan]

@[simp] theorem beginStart_line (l : LineNo) : (beginStart cause s).line l = freshLine false := by
  simp [beginStart, State.line]

@[simp] theorem beginStart_decoder (l : LineNo) : (beginStart cause s).decoder l = freshDecoder := by
  simp [beginStart, State.decoder, freshListener]

@[simp] theorem beginStart_cond (c : Condition) : (beginStart cause s).cond c = freshCondition := by
  simp [beginStart, State.cond, freshTrouble]

end

/-- With start not complete the clock is held at 0, the trouble relay is off and every lamp is dark (R159). -/
theorem dark_of_not_running {t : State} (start : t.running = false) :
    t.clock = 0 ∧ t.troubleRelay = false ∧ t.troubleLamp = .dark ∧ (∀ l, t.lineLamp l = .dark)
      ∧ ∀ c, t.channelLamp c = .dark := by
  simp [State.clock, State.troubleRelay, State.troubleLamp, State.lineLamp, State.channelLamp, start]

section
variable {s t u : State}

/-- The beginning of a start leaves what the manual says it leaves (R159). -/
theorem inStart_beginStart (cause : StartCause) (s : State) : InStart s (beginStart cause s) := by
  obtain ⟨clock, relay, lamp, lines, channels⟩ := dark_of_not_running (t := beginStart cause s) rfl
  refine ⟨rfl, clock, relay, lamp, fun l => ⟨?_, lines l⟩, channels, rfl, rfl, rfl, rfl, rfl, rfl, rfl, fun l => ?_, rfl,
    fun c => ?_, rfl, rfl, rfl, rfl, rfl, rfl, rfl, rfl, rfl, rfl⟩
  · simp [State.relayClosed, freshLine]
  · exact beginStart_decoder cause s l
  · rw [beginStart_cond]; exact ⟨rfl, rfl, rfl⟩

/-- What a start leaves does not speak of the supply or the start pin. -/
theorem InStart.withSupply (h : InStart s t) (x : Supply) : InStart s { t with supply := x } := h

theorem InStart.withPin (h : InStart s t) (b : Bool) : InStart s { t with pinLow := b } := h

/-! ### The part right after reset (R158, R159) -/

/-- The part right after reset is at the beginning of a power-up start. -/
theorem reset_eq_beginStart : State.reset = beginStart .powerUp State.reset := rfl

theorem reset_reports : State.reset.queue.reports = [] := rfl

theorem reset_call : State.reset.call = freshCall := rfl

theorem reset_access : State.reset.access = freshAccess := rfl

theorem reset_bounded : State.reset.bounded := by
  refine ⟨defaultSettings_inRange, fun c => ?_, fun l => ?_, ?_, ?_, ?_, Nat.zero_le _, Nat.zero_le _, fun c => ?_, Nat.zero_le _⟩
  · rw [reset_eq_beginStart, beginStart_chan]; unfold Channel.bounded; decide
  · rw [reset_eq_beginStart, beginStart_line]; decide
  · simp [reset_reports]
  · simp [reset_call, freshCall]
  · simp [reset_access, freshAccess]
  · rw [reset_eq_beginStart, beginStart_cond]; decide

theorem reset_queueSound : State.reset.queueSound := by
  refine ⟨Nat.zero_le _, .nil, ?_, by decide, .nil, Nat.zero_le _⟩
  simp [reset_reports]

theorem reset_heldSound : HeldSound State.reset := heldSound_beginStart .powerUp State.reset

theorem reset_callSound : State.reset.callSound := by
  unfold State.callSound
  rw [reset_reports, reset_call]
  simp [freshCall]

theorem reset_emptied : Emptied State.reset := .of_fresh rfl rfl

/-! ### The supply's and the start pin's events (R158) -/

theorem exec_powerStable {since : Nat} (rising : s.supply = .rising since) (held : since + 100 ≤ s.now) :
    exec .powerStable s = .next (tryRead { s with supply := .up }) :=
  whenDue_true (s := s) (f := fun s => tryRead { s with supply := .up }) (by simp [powerStableDue, rising, held])

theorem exec_startPinRelease (low : s.pinLow = true) :
    exec .startPinRelease s =
      .next (if s.phase = .starting then tryRead { s with pinLow := false } else { s with pinLow := false }) :=
  whenDue_true (s := s) (f := fun s => if s.phase = .starting then tryRead { s with pinLow := false } else { s with pinLow := false })
    low

theorem exec_startPinLow_down (down : s.supply = .down) : exec .startPinLow s = .next s := by
  simp [exec, execStartPinLow, whenDue_false, down]

theorem exec_startPinLow_supplied (supplied : s.supply ≠ .down) :
    exec .startPinLow s = .next { beginStart .startPin s with pinLow := true } := by
  simp [exec, execStartPinLow, whenDue_true, supplied]

/-! ### What an event leaves outside the blocks (R157) -/

/-- What no command touches. -/
structure SameConstants (s t : State) : Prop where
  unique : t.unique = s.unique
  choices : t.choices = s.choices
  pending : t.pending = s.pending

/-- What only the end of an image read changes besides. -/
structure SameSettings (s t : State) : Prop extends SameConstants s t where
  settings : t.settings = s.settings
  now : t.now = s.now

theorem Kept.sameConstants (h : Kept s t) : SameConstants s t := ⟨h.unique, h.choices, h.pending⟩

theorem Kept.sameSettings (h : Kept s t) : SameSettings s t := ⟨h.sameConstants, h.settings, h.now⟩

theorem SameConstants.trans (h : SameConstants s t) (k : SameConstants t u) : SameConstants s u :=
  ⟨k.unique.trans h.unique, k.choices.trans h.choices, k.pending.trans h.pending⟩

theorem SameSettings.trans (h : SameSettings s t) (k : SameSettings t u) : SameSettings s u :=
  ⟨h.toSameConstants.trans k.toSameConstants, k.settings.trans h.settings, k.now.trans h.now⟩

theorem sameSettings_supply (s : State) (x : Supply) : SameSettings s { s with supply := x } := ⟨⟨rfl, rfl, rfl⟩, rfl, rfl⟩

theorem sameSettings_pin (s : State) (b : Bool) : SameSettings s { s with pinLow := b } := ⟨⟨rfl, rfl, rfl⟩, rfl, rfl⟩

theorem sameSettings_beginStart (cause : StartCause) (s : State) : SameSettings s (beginStart cause s) :=
  ⟨⟨rfl, rfl, rfl⟩, rfl, rfl⟩

theorem sameSettings_tryRead (s : State) : SameSettings s (tryRead s) := by
  obtain h | ⟨-, -, h⟩ := tryRead_cases s <;> rw [h] <;> exact ⟨⟨rfl, rfl, rfl⟩, rfl, rfl⟩

theorem sameConstants_endRead (bytes : Option (List Byte)) (s : State) : SameConstants s (endRead bytes s) :=
  SameConstants.trans (t := afterRead _ _ s) ⟨rfl, rfl, rfl⟩ (kept_endRead bytes s).sameConstants

theorem sameSettings_endAnswer (s : State) : SameSettings s (endAnswer s) := by
  obtain h | h | ⟨a, h⟩ := endAnswer_cases s <;> rw [h]
  · exact (Kept.refl s).sameSettings
  · exact (sameSettings_beginStart _ s).trans (sameSettings_tryRead _)
  · have kept := (onlyPortAndChannels_answerTaken a s).kept
    exact ⟨⟨kept.unique, kept.choices, kept.pending⟩, kept.settings, kept.now⟩

/-- An event of a start that ends no image read leaves the settings and the part's clock. -/
theorem sameSettings_startEvent {i : Instr} (start : startEvent i = true) (noRead : ∀ image, i ≠ .imageReadEnd image)
    (noTimeout : i ≠ .imageReadTimeout) (taken : exec i s = .next t) : SameSettings s t := by
  have same : SameSettings s s := (Kept.refl s).sameSettings
  cases i <;> cases start <;> unfold exec at taken
  case powerUp | supplyFailure => cases taken; exact (sameSettings_beginStart _ s).trans (sameSettings_supply _ _)
  case powerStable => exact of_whenDue taken same ((sameSettings_supply s _).trans (sameSettings_tryRead _))
  case startPinLow => exact of_whenDue taken same ((sameSettings_beginStart _ s).trans (sameSettings_pin _ _))
  case startPinRelease =>
    refine of_whenDue taken same ?_
    split
    · exact (sameSettings_pin s _).trans (sameSettings_tryRead _)
    · exact sameSettings_pin s _
  case imageReadEnd image => exact absurd rfl (noRead image)
  case imageReadTimeout => exact absurd rfl noTimeout
  case answerEnd => exact of_whenDue taken same (sameSettings_endAnswer s)

theorem sameConstants_startEvent {i : Instr} (start : startEvent i = true) (taken : exec i s = .next t) : SameConstants s t := by
  by_cases timeout : i = .imageReadTimeout
  · subst timeout
    exact of_whenDue taken (Kept.refl s).sameConstants (sameConstants_endRead _ s)
  by_cases read : ∃ image, i = .imageReadEnd image
  · obtain ⟨image, rfl⟩ := read
    exact of_whenDue taken (Kept.refl s).sameConstants (sameConstants_endRead _ s)
  · exact (sameSettings_startEvent start (fun image is => read ⟨image, is⟩) timeout taken).toSameConstants

/-- Of what `Kept` names, an event that is no start's touches channels, the peer listener and the port at most. -/
theorem kept_exec_beside {i : Instr} (start : startEvent i = false) (taken : exec i s = .next t) :
    Kept { s with channels := t.channels, listener := t.listener, port := t.port } t := by
  obtain ⟨_, _, one⟩ | ⟨_, _, port⟩ | ⟨_, port⟩ | ⟨_, peer⟩ | ⟨_, peer⟩ | ⟨_, peer⟩ | ⟨peer, _⟩ :=
    exec_frame_cases s start taken
  · exact (one.kept.withListener t.listener).withPort t.port
  · exact port.kept.withListener t.listener
  · exact (port.kept.withListener t.listener).withChannels t.channels
  · exact (peer.kept.withChannels t.channels).withPort t.port
  · exact peer.kept.withPort t.port
  · exact (peer.kept.withChannels t.channels).withPort t.port
  · exact (peer.kept.withChannels t.channels).withPort t.port

end

end Sys2Proof.Machine

namespace Sys2Proof.Proofs
open Sys2Proof Sys2Proof.Machine

/-- Settles O55: the part right after reset is at the beginning of a start, which leaves every record at its start value. -/
theorem resetIsSound : Obligations.Reset_is_sound :=
  ⟨reset_bounded, reset_queueSound, reset_heldSound.linesSound, reset_heldSound.holdersSound, reset_callSound,
    reset_emptied.heardSound, reset_emptied.portSound, fun past => absurd rfl past⟩

/-- Settles O4: the events of a start event by event, and every other one by what it leaves alone (`kept_exec_beside`). -/
theorem settingsStandBetweenStarts : Obligations.Settings_stand_between_starts := by
  intro i s t taken
  cases start : startEvent i with
  | true =>
    obtain ⟨unique, choices, pending⟩ := sameConstants_startEvent start taken
    refine ⟨unique, choices, pending, fun noRead noTimeout => ?_, nofun⟩
    have same := sameSettings_startEvent start noRead noTimeout taken
    exact ⟨same.settings, same.now⟩
  | false =>
    have kept := kept_exec_beside start taken
    exact ⟨kept.unique, kept.choices, kept.pending, fun _ _ => ⟨kept.settings, kept.now⟩,
      fun _ => ⟨kept.supply, kept.pinLow, kept.phase, kept.startCause, kept.loader⟩⟩

/-- A POWER_UP or SUPPLY_FAILURE begins a start with cause 1, and a START_PIN_LOW one with cause 2 where there is a supply (R158). -/
theorem start_begins (s : State) :
    (∃ t, exec .powerUp s = .next t ∧ InStart s t ∧ t.supply = .rising s.now ∧ t.startCause = .powerUp ∧ t.pinLow = s.pinLow)
      ∧ (∃ t, exec .supplyFailure s = .next t ∧ InStart s t ∧ t.supply = .down ∧ t.startCause = .powerUp ∧ t.pinLow = s.pinLow)
      ∧ ∃ t, exec .startPinLow s = .next t ∧
          (if s.supply = .down then t = s
           else InStart s t ∧ t.supply = s.supply ∧ t.startCause = .startPin ∧ t.pinLow = true) := by
  refine ⟨⟨_, rfl, (inStart_beginStart _ s).withSupply _, rfl, rfl, rfl⟩,
    ⟨_, rfl, (inStart_beginStart _ s).withSupply _, rfl, rfl, rfl⟩, ?_⟩
  by_cases down : s.supply = .down
  · exact ⟨s, exec_startPinLow_down down, by rw [if_pos down]⟩
  · refine ⟨_, exec_startPinLow_supplied down, ?_⟩
    rw [if_neg down]
    exact ⟨(inStart_beginStart _ s).withPin _, rfl, rfl, rfl⟩

/-- Settles O6: each event that begins a start, and then the two that let the image read begin, by what else holds it off. -/
theorem startAndImageReadBegin : Obligations.Start_and_image_read_begin := by
  refine ⟨start_begins, fun s => ⟨fun since rising held => ?_, fun low => ?_⟩⟩
  · rw [exec_powerStable rising held]
    cases s.pinLow <;> simp [tryRead]
  · rw [exec_startPinRelease low]
    by_cases starting : s.phase = .starting <;> by_cases up : s.supply = .up <;> simp [tryRead, starting, up]

end Sys2Proof.Proofs
end

section
/-! The image checked: magic, checksum and absence, and what the end of the image read makes of them (R151 to R153). -/

namespace Sys2Proof.Machine

/-! ### The checks (R152) -/

theorem magicRight_iff (image : List Byte) : magicRight image = true ↔ byteAt image 0 = 165 ∧ byteAt image 1 = 72 := by
  simp [magicRight]

/-- The sum of the first bytes of an image, added up one after another, is the sum of what their places hold. -/
theorem foldl_take_eq_sum (image : List Byte) (n : Nat) (inside : n ≤ image.length) :
    (image.take n).foldl (fun k b => k + b.toNat) 0 = ((List.range n).map (byteAt image)).sum := by
  induction n with
  | zero => rfl
  | succ n ih =>
    have place : image[n]? = some (image[n]'inside) := List.getElem?_eq_getElem inside
    have last : byteAt image n = (image[n]'inside).toNat := by simp [byteAt, List.getD, place]
    rw [List.take_add_one, place, List.foldl_append, ih (Nat.le_of_succ_le inside), List.range_succ, List.map_append,
      List.sum_append, List.map_singleton, List.sum_singleton, last]
    rfl

/-- The checksum is right when the bytes before it add up to it (R152). -/
theorem checksumRight_iff (image : List Byte) (length : image.length = 256) : checksumRight image = true ↔
    ((List.range 254).map (byteAt image)).sum % 65536 = 256 * byteAt image 254 + byteAt image 255 := by
  have sum := foldl_take_eq_sum image 254 (by omega)
  simp only [checksumRight, imageSum, wordAt, decide_eq_true_eq, sum]

/-- An image is taken when its magic is right, and with its lines when its checksum is too (R152, R153). -/
theorem loadImage_cases (image : List Byte) :
    (magicRight image = false ∧ loadImage (some image) = (defaultSettings, ⟨0, 0⟩, true)) ∨
    (magicRight image = true ∧ checksumRight image = true ∧
      loadImage (some image) = ((settingsOf image).value, ⟨byteAt image 2, (settingsOf image).changes⟩, false)) ∨
    (magicRight image = true ∧ checksumRight image = false ∧
      loadImage (some image) =
        ({ (settingsOf image).value with fitted := 0 }, ⟨byteAt image 2, (settingsOf image).changes⟩, true)) := by
  cases magic : magicRight image with
  | false => exact .inl ⟨rfl, by simp [loadImage, magic]⟩
  | true => cases sum : checksumRight image with
    | true => exact .inr (.inl ⟨rfl, rfl, by simp [loadImage, magic, sum]⟩)
    | false => exact .inr (.inr ⟨rfl, rfl, by simp [loadImage, magic, sum]⟩)

/-! ### The end of the image read (R150 to R153) -/

/-- The reports of a start make no condition active but the one told (R150). -/
theorem active_handReport (m : Matter) (d : Condition) (other : d ≠ .queueOverflow) (s : State) :
    ((handReport m s).cond d).active = (s.cond d).active := by
  have entered := cond_enterReport s m d
  unfold handReport
  split <;> rename_i e <;> rw [e] at entered
  · rw [active_overflowBegins _ _ _ other, entered]
  · rw [entered]

/-- CONFIG_DEFAULTED is active after a start just when the part has fallen back to local-only operation (R152, R153). -/
theorem active_endRead (bytes : Option (List Byte)) (s : State) :
    ((endRead bytes s).cond .configDefaulted).active = (loadImage bytes).2.2 := by
  have started : ((handReport (startReport s.startCause) (afterRead (loadImage bytes).1 (loadImage bytes).2.1 s)).cond
      .configDefaulted).active = false := by
    rw [active_handReport _ _ (by simp), afterRead_cond]; rfl
  unfold endRead; dsimp only; split
  · rename_i told
    rw [active_tellTrouble _ _ _ _ (by simp), if_pos rfl, told]
  · rename_i quiet
    rw [started, Bool.eq_false_iff.2 quiet]

/-- The state `t` runs from instant 0 on with these settings, this version and clamp count, and CONFIG_DEFAULTED so. -/
def StartedWith (outcome : Settings × Loader × Bool) (t : State) : Prop :=
  t.phase = .running ∧ t.now = 0 ∧ t.settings = outcome.1 ∧ t.loader = outcome.2.1
    ∧ (t.cond .configDefaulted).active = outcome.2.2

/-- What the loader makes of the bytes read is what the part runs with (R152, R153, R157). -/
theorem startedWith_endRead (bytes : Option (List Byte)) (s : State) : StartedWith (loadImage bytes) (endRead bytes s) := by
  have kept := kept_endRead bytes s
  exact ⟨kept.phase, kept.now, kept.settings, kept.loader, active_endRead bytes s⟩

section
variable {s : State} {since : Nat}

theorem exec_imageReadEnd {image : List Byte} (reading : s.phase = .reading since) (length : image.length = 256)
    (inTime : s.now ≤ since + 200) : exec (.imageReadEnd image) s = .next (endRead (some image) s) :=
  whenDue_true (f := endRead (some image)) (by simp [imageReadEndDue, reading, length, inTime])

theorem exec_imageReadTimeout (reading : s.phase = .reading since) (late : since + 200 ≤ s.now) :
    exec .imageReadTimeout s = .next (endRead none s) :=
  whenDue_true (f := endRead none) (by simp [imageReadTimeoutDue, reading, late])

end

end Sys2Proof.Machine

namespace Sys2Proof.Proofs
open Sys2Proof Sys2Proof.Machine

/-- Settles O7: what the loader makes of the bytes (`loadImage_cases`) is what the part runs with (`startedWith_endRead`). -/
theorem imageDecidesSettings : Obligations.Image_decides_settings := by
  intro s since reading
  refine ⟨fun image length inTime => ?_, fun late => ?_⟩
  · have started := startedWith_endRead (some image) s
    refine ⟨endRead (some image) s, exec_imageReadEnd reading length inTime, ?_⟩
    have magicIs := magicRight_iff image
    have sumIs := checksumRight_iff image length
    obtain ⟨magic, loaded⟩ | ⟨magic, sum, loaded⟩ | ⟨magic, sum, loaded⟩ := loadImage_cases image <;>
      rw [loaded] at started <;> obtain ⟨phase, now, settings, loader, active⟩ := started
    · rw [if_neg (mt magicIs.2 (by simp [magic]))]
      exact ⟨phase, now, settings, loader, active⟩
    · rw [if_pos (magicIs.1 magic), if_pos (sumIs.1 sum)]
      exact ⟨phase, now, loader, settings, active⟩
    · rw [if_pos (magicIs.1 magic), if_neg (mt sumIs.2 (by simp [sum]))]
      exact ⟨phase, now, loader, settings, active⟩
  · obtain ⟨phase, now, settings, loader, active⟩ := startedWith_endRead none s
    exact ⟨_, exec_imageReadTimeout reading late, phase, now, settings, loader, active⟩

end Sys2Proof.Proofs
end

section
/-! The fields of the image brought into their ranges, and the clamp count (R154 to R157, R170). -/

namespace Sys2Proof.Machine

/-! ### What a clamp counts -/

/-- One for a number outside its range, and nothing for one inside. -/
def outside (lo hi n : Nat) : Nat := if n < lo ∨ hi < n then 1 else 0

/-- One for a byte that names something and is not kept, and nothing for another. -/
def lostName (b : Nat) (kept : Bool) : Nat := if b ≠ 0 ∧ kept = false then 1 else 0

section
variable {lo hi n : Nat}

theorem clampNumber_value (range : lo ≤ hi) : (clampNumber lo hi n).value = max lo (min hi n) := by
  unfold clampNumber; split
  · dsimp only; omega
  · split <;> dsimp only <;> omega

theorem clampNumber_value_zero : (clampNumber 0 hi n).value = min hi n := by
  rw [clampNumber_value (Nat.zero_le hi), Nat.zero_max]

theorem clampNumber_changes : (clampNumber lo hi n).changes = outside lo hi n := by
  unfold clampNumber outside
  by_cases low : n < lo <;> by_cases high : hi < n <;> simp [low, high]

theorem clampGroup_value : (clampGroup n).value = if 99 < n then 0 else n := by
  unfold clampGroup; split <;> rfl

theorem clampGroup_changes : (clampGroup n).changes = outside 0 99 n := by
  unfold clampGroup outside
  by_cases high : 99 < n <;> simp [high]

theorem clampSwitch_value : (clampSwitch n).value = decide (n ≠ 0) := by
  unfold clampSwitch
  by_cases off : n = 0 <;> by_cases on : n = 1 <;> simp [off, on]

theorem clampSwitch_changes : (clampSwitch n).changes = outside 0 1 n :=
  match n with
  | 0 | 1 => rfl
  | n + 2 => by simp [clampSwitch, outside]

theorem clampChannelClass_rank (n : Nat) : (clampChannelClass n).value.rank = min 2 n :=
  match n with
  | 0 | 1 | 2 => rfl
  | n + 3 => by
    have most : min 2 (n + 3) = 2 := by omega
    rw [most]; rfl

theorem clampChannelClass_changes (n : Nat) : (clampChannelClass n).changes = outside 0 2 n :=
  match n with
  | 0 | 1 | 2 => rfl
  | n + 3 => by simp [clampChannelClass, outside]

theorem clampMode_value (n : Nat) : (clampMode n).value = match n with
    | 1 => .contact
    | 2 => .flow
    | 3 => .count
    | _ => .disabled :=
  match n with
  | 0 | 1 | 2 | 3 | _ + 4 => rfl

theorem clampMode_changes (n : Nat) : (clampMode n).changes = outside 0 3 n :=
  match n with
  | 0 | 1 | 2 | 3 => rfl
  | n + 4 => by simp [clampMode, outside]

end

theorem lineSetAt_getLsbD (image : List Byte) (i : Nat) (l : LineNo) :
    (lineSetAt image i).getLsbD l.val = (byteAt image i).testBit l.val := by
  simp only [lineSetAt, BitVec.getLsbD_ofNat, l.isLt, decide_true, Bool.true_and]

/-! ### Destinations and routes (R156) -/

/-- The symbol of a valid code. -/
def dialSym (b : Nat) : DialSym := if b = 10 then .pause else .digit (Fin.ofNat 10 b)

/-- Valid codes are read one by one, whatever follows them. -/
theorem clampDest_append (codes rest : List Nat) (valid : ∀ b ∈ codes, b ≤ 10) :
    clampDest (codes ++ rest) = ⟨codes.map dialSym ++ (clampDest rest).value, (clampDest rest).changes⟩ := by
  induction codes with
  | nil => rfl
  | cons b codes ih =>
    have isCode : b ≤ 10 := valid b List.mem_cons_self
    have read := ih fun x mem => valid x (List.mem_cons_of_mem b mem)
    rw [List.cons_append, clampDest, if_neg (by omega), read]
    by_cases pause : b = 10
    · simp [pause, dialSym]
    · rw [if_neg pause, if_pos (by omega)]
      simp [pause, dialSym]

theorem clampDest_end (rest : List Nat) : clampDest (255 :: rest) = ⟨[], 0⟩ := rfl

theorem clampDest_invalid {bad : Nat} (rest : List Nat) (high : 10 < bad) (noEnd : bad ≠ 255) :
    clampDest (bad :: rest) = ⟨[], 1⟩ := by
  rw [clampDest, if_neg noEnd, if_neg (by omega), if_neg (by omega)]

/-- What a route entry's byte names, by the destinations that are not none. -/
def namedDest (dest1 dest2 dest3 : List DialSym) (b : Nat) : Option DestId :=
  if b = 1 ∧ dest1 ≠ [] then some .d1 else if b = 2 ∧ dest2 ≠ [] then some .d2
  else if b = 3 ∧ dest3 ≠ [] then some .d3 else none

/-- A route entry is what its byte names, and counts when it names nothing. -/
theorem clampRoute_eq (dest1 dest2 dest3 : List DialSym) (b : Nat) :
    clampRoute dest1 dest2 dest3 b =
      ⟨namedDest dest1 dest2 dest3 b, lostName b (namedDest dest1 dest2 dest3 b).isSome⟩ :=
  match b with
  | 0 => rfl
  | 1 => by by_cases missing : dest1 = [] <;> simp [clampRoute, namedDest, lostName, missing]
  | 2 => by by_cases missing : dest2 = [] <;> simp [clampRoute, namedDest, lostName, missing]
  | 3 => by by_cases missing : dest3 = [] <;> simp [clampRoute, namedDest, lostName, missing]
  | b + 4 => by simp [clampRoute, namedDest, lostName]

/-! ### The five classes (R154, R156) -/

theorem clampClasses_get {α : Type} (f : Nat → Clamped α) (k : ReportClass) :
    (clampClasses f).value.get k = (f k.rank).value := by
  cases k <;> rfl

theorem clampClasses_changes {α : Type} (f : Nat → Clamped α) :
    (clampClasses f).changes = ((List.range 5).map fun k => (f k).changes).sum := by
  simp [clampClasses, List.range_succ, Nat.add_assoc]

/-- A sum over the first even number of places, taken in pairs. -/
theorem sum_range_pairs (g : Nat → Nat) (n : Nat) :
    ((List.range (2 * n)).map g).sum = ((List.range n).map fun k => g (2 * k) + g (2 * k + 1)).sum := by
  induction n with
  | zero => rfl
  | succ n ih =>
    rw [Nat.mul_succ, List.range_succ, List.range_succ, List.range_succ]
    simp only [List.map_append, List.sum_append, List.map_singleton, List.sum_singleton, ih, Nat.add_assoc]

/-- The ten route entries in the order of their bytes (R170). -/
theorem routes_changes (image : List Byte) (dest1 dest2 dest3 : List DialSym) :
    (clampClasses (routeAt image dest1 dest2 dest3)).changes =
      ((List.range 10).map fun k =>
        lostName (byteAt image (72 + k)) (namedDest dest1 dest2 dest3 (byteAt image (72 + k))).isSome).sum := by
  have next (k : Nat) : 73 + 2 * k = 72 + (2 * k + 1) := by omega
  rw [clampClasses_changes, show 10 = 2 * 5 from rfl, sum_range_pairs]
  simp only [routeAt, clampRoute_eq, next]

/-! ### Channels (R155) -/

section
variable (modes : ChannelNo → Mode) (c : ChannelNo) (b : Nat)

/-- A gate stands just when it names another channel in CONTACT, by its number. -/
theorem clampGate_value (g : ChannelNo) :
    (clampGate modes c b).value = some g ↔ b = g.val + 1 ∧ g ≠ c ∧ modes g = .contact := by
  unfold clampGate
  split
  · simp only [reduceCtorEq, false_iff]; omega
  · rename_i named
    split
    · rename_i few
      have number : (⟨b - 1, few⟩ : ChannelNo) = g ↔ b = g.val + 1 := by rw [Fin.ext_iff]; dsimp only; omega
      dsimp only
      split
      · rename_i stands
        rw [Option.some_inj, number]
        exact ⟨fun is => ⟨is, number.2 is ▸ stands⟩, fun is => is.1⟩
      · rename_i falls
        simp only [reduceCtorEq, false_iff]
        rintro ⟨is, stands⟩
        exact falls (number.2 is ▸ stands)
    · rename_i many
      have := g.isLt
      simp only [reduceCtorEq, false_iff]; omega

theorem clampGate_changes : (clampGate modes c b).changes = lostName b (clampGate modes c b).value.isSome := by
  unfold clampGate
  split
  · rename_i zero; simp [lostName, zero]
  · rename_i named
    split
    · dsimp only; split <;> simp [lostName, named]
    · simp [lostName, named]

end

section
variable (image : List Byte) (c : ChannelNo)

/-- The working settings hold each channel's block after both passes. -/
theorem settingsOf_channel : (settingsOf image).value.channels[c.val]'c.isLt = (channelAt image c).value := by
  simp [settingsOf]

theorem gateByte_eq : gateByte image c = byteAt image (100 + 19 * c.val + 17) := by
  unfold gateByte; congr 1; omega

/-- Set-point-low is clamped for its own range and then for set-point-high. -/
theorem setLow_eq (high low : Nat) :
    (clampNumber 0 (clampNumber 1 9999 high).value (clampNumber 0 9999 low).value).value =
      min (clampNumber 1 9999 high).value low := by
  rw [clampNumber_value_zero, clampNumber_value_zero, clampNumber_value (by decide)]
  omega

/-- Every field of a channel's block that was changed, set-point-low once for each of its limits. -/
theorem channelAt_changes :
    let o := 100 + 19 * c.val
    (channelAt image c).changes =
      outside 0 2 (byteAt image o) + outside 100 299 (wordAt image (o + 1)) + outside 0 99 (byteAt image (o + 3))
        + outside 0 3 (byteAt image (o + 4)) + outside 2 200 (byteAt image (o + 5)) + outside 0 300 (wordAt image (o + 6))
        + outside 0 300 (wordAt image (o + 8)) + outside 1 3600 (wordAt image (o + 10)) + outside 1 10 (byteAt image (o + 12))
        + outside 1 9999 (wordAt image (o + 13)) + outside 0 9999 (wordAt image (o + 15))
        + outside 0 (channelAt image c).value.setHigh (min 9999 (wordAt image (o + 15))) + outside 0 1 (byteAt image (o + 18))
        + lostName (byteAt image (o + 17)) (channelAt image c).value.gate.isSome := by
  simp only [channelAt, channelBlock, clampGate_changes, gateByte_eq, clampNumber_changes, clampGroup_changes, clampSwitch_changes,
    clampChannelClass_changes, clampMode_changes, clampNumber_value_zero]

/-- The changes of all channels, lowest number first. -/
theorem channels_changes :
    ((Vector.ofFn (channelAt image)).toList.map (·.changes)).sum = (allChannels.map fun c => (channelAt image c).changes).sum := by
  rw [Vector.toList_ofFn, List.ofFn_eq_map, List.map_map]
  rfl

theorem shared_changes :
    (((List.range 8).map fun k => clampGroup (byteAt image (90 + k))).map (·.changes)).sum =
      ((List.range 8).map fun k => outside 0 99 (byteAt image (90 + k))).sum := by
  rw [List.map_map]
  exact congrArg List.sum (List.map_congr_left fun k _ => clampGroup_changes)

/-- The clamp count: every field that was changed, saturating at 255 (R157). -/
theorem settingsOf_changes :
    let v := (settingsOf image).value
    (settingsOf image).changes = min 255 (
      outside 1 31 (byteAt image 3) + outside 0 9999 (wordAt image 4) + outside 1 60 (byteAt image 87)
        + outside 30 600 (wordAt image 88) + outside 0 168 (byteAt image 98) + outside 0 1 (byteAt image 99)
        + (destAt image 12).changes + (destAt image 32).changes + (destAt image 52).changes
        + ((List.range 5).map fun k => outside 1 15 (byteAt image (82 + k))).sum
        + ((List.range 8).map fun k => outside 0 99 (byteAt image (90 + k))).sum
        + ((List.range 10).map fun k =>
            lostName (byteAt image (72 + k)) (namedDest v.dest1 v.dest2 v.dest3 (byteAt image (72 + k))).isSome).sum
        + (allChannels.map fun c => (channelAt image c).changes).sum) := by
  have maxima := clampClasses_changes fun k => clampNumber 1 15 (byteAt image (82 + k))
  simp only [clampNumber_changes] at maxima
  simp only [settingsOf, clampNumber_changes, clampSwitch_changes, routes_changes, channels_changes, shared_changes, maxima]
  omega

end

end Sys2Proof.Machine

namespace Sys2Proof.Proofs
open Sys2Proof Sys2Proof.Machine

/-- The codes of a destination up to what ends it (R156). -/
theorem destination_read (codes rest : List Nat) (bad : Nat) (valid : ∀ b ∈ codes, b ≤ 10) (high : 10 < bad) (noEnd : bad ≠ 255) :
    clampDest (codes ++ 255 :: rest) = ⟨codes.map dialSym, 0⟩ ∧ clampDest (codes ++ bad :: rest) = ⟨codes.map dialSym, 1⟩
      ∧ clampDest codes = ⟨codes.map dialSym, 0⟩ := by
  have all := clampDest_append codes [] valid
  rw [clampDest_append codes _ valid, clampDest_append codes _ valid, clampDest_end, clampDest_invalid rest high noEnd]
  rw [List.append_nil] at all
  rw [all, clampDest]
  simp

/-- Settles O10: field by field, each as its own clamp leaves it; and the clamp count term by term, the five classes and the route
entries in the order of their bytes. -/
theorem imageFieldsAreClamped : Obligations.Image_fields_are_clamped := by
  refine ⟨?_, destination_read⟩
  intro image v byte word dest entry
  have channel (c : ChannelNo) : v.channels[c.val]'c.isLt = (channelAt image c).value := settingsOf_channel image c
  refine ⟨clampNumber_value (by decide), clampNumber_value_zero, fun l => ?_, fun k l => ?_, fun k => ?_, fun k => ?_,
    clampNumber_value (by decide), clampNumber_value (by decide), ?_, clampNumber_value_zero, clampSwitch_value, rfl, rfl, rfl,
    fun c => ?_, ?_⟩
  · exact lineSetAt_getLsbD image 6 l
  · cases k <;> exact lineSetAt_getLsbD image _ l
  · refine (clampClasses_get _ k).trans ?_
    simp only [routeAt, clampRoute_eq]
    rfl
  · exact (clampClasses_get (fun i => clampNumber 1 15 (byteAt image (82 + i))) k).trans (clampNumber_value (by decide))
  · exact List.map_map.trans (List.map_congr_left fun k _ => clampGroup_value)
  · intro o x
    have own : x = (channelAt image c).value := channel c
    rw [own]
    refine ⟨clampChannelClass_rank _, clampNumber_value (by decide), clampGroup_value, clampMode_value _,
      congrArg (10 * ·) (clampNumber_value (lo := 2) (hi := 200) (by decide)), clampNumber_value_zero, clampNumber_value_zero,
      clampNumber_value (by decide), clampNumber_value (by decide), clampNumber_value (by decide), setLow_eq _ _, fun g => ?_,
      clampSwitch_value⟩
    rw [channel g, show byte (o + 17) = gateByte image c from (gateByte_eq image c).symm]
    exact clampGate_value _ c _ g
  · intro out lost
    have blocks : (allChannels.map fun c => (channelAt image c).changes) = allChannels.map _ :=
      List.map_congr_left fun c _ => (channelAt_changes image c).trans (by rw [← channel c])
    rw [settingsOf_changes, blocks]
    rfl

end Sys2Proof.Proofs
end

section
/-! Characters received, the lines they make, and what a line taken and an answer ended bring about (R158, R159, R161 to R163, R168). -/

namespace Sys2Proof.Machine

/-! ### Words (R162) -/

/-- Spaces before a word are passed over. -/
theorem wordsFrom_spaces (n : Nat) (rest : Text) : wordsFrom [] (List.replicate n ' ' ++ rest) = wordsFrom [] rest := by
  induction n with
  | zero => rfl
  | succ n ih => rw [List.replicate_succ, List.cons_append, wordsFrom, if_pos rfl, ih]

/-- Letters are gathered into the word in hand, last letter first. -/
theorem wordsFrom_letters (w rest : Text) (letters : ' ' ∉ w) (y : Char) (hand : Text) :
    wordsFrom (y :: hand) (w ++ rest) = wordsFrom (w.reverse ++ y :: hand) rest := by
  induction w generalizing y hand with
  | nil => rfl
  | cons x w ih =>
    obtain ⟨letter, letters⟩ := not_or.1 (mt List.mem_cons.2 letters)
    rw [List.cons_append, wordsFrom, if_neg (Ne.symm letter), ih letters]
    · simp
    · nofun

/-- A word begins at its first letter. -/
theorem wordsFrom_word (w rest : Text) (word : w ≠ []) (letters : ' ' ∉ w) :
    wordsFrom [] (w ++ rest) = wordsFrom w.reverse rest := by
  obtain ⟨x, w, rfl⟩ := List.exists_cons_of_ne_nil word
  obtain ⟨letter, letters⟩ := not_or.1 (mt List.mem_cons.2 letters)
  rw [List.cons_append, wordsFrom, if_neg (Ne.symm letter), wordsFrom_letters w rest letters, List.reverse_cons]

/-- A word ends at the end of the line. -/
theorem wordsFrom_end (w : Text) (word : w ≠ []) : wordsFrom w.reverse [] = [w] := by
  have hand : w.reverse ≠ [] := mt List.reverse_eq_nil_iff.1 word
  rw [wordsFrom, List.reverse_reverse]
  exact hand

/-- A word ends at a space. -/
theorem wordsFrom_space (w rest : Text) (word : w ≠ []) : wordsFrom w.reverse (' ' :: rest) = w :: wordsFrom [] rest := by
  have hand : w.reverse ≠ [] := mt List.reverse_eq_nil_iff.1 word
  rw [wordsFrom, if_pos rfl, List.reverse_reverse]
  exact hand

/-! ### Numbers and names (R162) -/

/-- A word of decimal digits. -/
def isNumber (w : Text) : Prop := w ≠ [] ∧ ∀ x ∈ w, '0' ≤ x ∧ x ≤ '9'

/-- The number that decimal digits write. -/
def numberValue (w : Text) : Nat := w.foldl (fun n x => 10 * n + (x.toNat - '0'.toNat)) 0

theorem number?_of_isNumber {w : Text} (h : isNumber w) : number? w = some (numberValue w) := by
  obtain ⟨letters, digits⟩ := h
  exact if_pos ⟨letters, by simpa using digits⟩

theorem number?_of_not_isNumber {w : Text} (h : ¬ isNumber w) : number? w = none := by
  refine if_neg fun ⟨letters, digits⟩ => h ⟨letters, ?_⟩
  simpa using digits

theorem numberCommand_of_isNumber (f : Nat → PortCommand) {w : Text} (h : isNumber w) :
    numberCommand f [w] = .command (f (numberValue w)) := by
  simp [numberCommand, number?_of_isNumber h]

/-- Without one number as its only argument a numbered command is ERR ARGUMENT. -/
theorem numberCommand_of_no_number (f : Nat → PortCommand) {args : List Text} (h : ∀ w, args = [w] → ¬ isNumber w) :
    numberCommand f args = .error .argument := by
  match args with
  | [] | _ :: _ :: _ => rfl
  | [w] => simp [numberCommand, number?_of_not_isNumber (h w rfl)]

/-- A name, the command without arguments that it stands for, and that command given whole. -/
structure NamesPlain (i : Instr) (name : String) (c : PortCommand) : Prop where
  sorted : ∀ args, sortWords name.toList args = plainCommand c args
  text : PortCommand.text c = name.toList
  given : ∀ s, exec i s = .next (giveCommand c (doCommand c) s)

/-- A name, the commands with a number that it stands for, and those commands given whole. -/
structure NamesNumbered (i : Nat → Instr) (name : String) (f : Nat → PortCommand) : Prop where
  sorted : ∀ args, sortWords name.toList args = numberCommand f args
  text : ∀ n, PortCommand.text (f n) = name.toList ++ ' ' :: decimal n
  given : ∀ n s, exec (i n) s = .next (giveCommand (f n) (doCommand (f n)) s)

/-- The nine names of commands without arguments (section 9.3). -/
def plainNames : List (Instr × String) :=
  [(.ident, "IDENT"), (.status, "STATUS"), (.queue, "QUEUE"), (.lines, "LINES"), (.trouble, "TROUBLE"), (.ack, "ACK"),
    (.test, "TEST"), (.abort, "ABORT"), (.restart, "RESTART")]

/-- The four names of commands with a number (section 9.3). -/
def numberedNames : List ((Nat → Instr) × String) :=
  [(.hist, "HIST"), (.chan, "CHAN"), (.bypass, "BYPASS"), (.unbypass, "UNBYPASS")]

theorem namesPlain_of_mem {p : Instr × String} (mem : p ∈ plainNames) : ∃ c, NamesPlain p.1 p.2 c := by
  simp only [plainNames, List.mem_cons, List.not_mem_nil, or_false] at mem
  rcases mem with rfl | rfl | rfl | rfl | rfl | rfl | rfl | rfl | rfl
  · exact ⟨.ident, fun _ => rfl, rfl, fun _ => rfl⟩
  · exact ⟨.status, fun _ => rfl, rfl, fun _ => rfl⟩
  · exact ⟨.queue, fun _ => rfl, rfl, fun _ => rfl⟩
  · exact ⟨.lines, fun _ => rfl, rfl, fun _ => rfl⟩
  · exact ⟨.trouble, fun _ => rfl, rfl, fun _ => rfl⟩
  · exact ⟨.ack, fun _ => rfl, rfl, fun _ => rfl⟩
  · exact ⟨.test, fun _ => rfl, rfl, fun _ => rfl⟩
  · exact ⟨.abort, fun _ => rfl, rfl, fun _ => rfl⟩
  · exact ⟨.restart, fun _ => rfl, rfl, fun _ => rfl⟩

theorem namesNumbered_of_mem {p : (Nat → Instr) × String} (mem : p ∈ numberedNames) : ∃ f, NamesNumbered p.1 p.2 f := by
  simp only [numberedNames, List.mem_cons, List.not_mem_nil, or_false] at mem
  rcases mem with rfl | rfl | rfl | rfl
  · exact ⟨.hist, fun _ => rfl, fun _ => rfl, fun _ _ => rfl⟩
  · exact ⟨.chan, fun _ => rfl, fun _ => rfl, fun _ _ => rfl⟩
  · exact ⟨.bypass, fun _ => rfl, fun _ => rfl, fun _ _ => rfl⟩
  · exact ⟨.unbypass, fun _ => rfl, fun _ => rfl, fun _ _ => rfl⟩

/-- A first word that is none of the thirteen names is ERR UNKNOWN. -/
theorem sortWords_unknown {name : Text} (args : List Text)
    (unnamed : String.ofList name ∉ plainNames.map (·.2) ++ numberedNames.map (·.2)) : sortWords name args = .error .unknown := by
  have other (n : String) (mem : n ∈ plainNames.map (·.2) ++ numberedNames.map (·.2)) : name ≠ n.toList := by
    rintro rfl
    rw [String.ofList_toList] at unnamed
    exact unnamed mem
  simp only [plainNames, numberedNames, List.map_cons, List.map_nil, List.cons_append, List.nil_append, List.forall_mem_cons] at other
  obtain ⟨ident, status, queue, lines, trouble, ack, test, abort, restart, hist, chan, bypass, unbypass, -⟩ := other
  rw [sortWords, if_neg ident, if_neg status, if_neg queue, if_neg hist, if_neg lines, if_neg chan, if_neg trouble, if_neg ack,
    if_neg bypass, if_neg unbypass, if_neg test, if_neg abort, if_neg restart]

/-! ### A line taken (R162) -/

section
variable {chars : Text} {first : Text} {args : List Text} {s : State}

/-- An error is one line. -/
theorem answerError_eq (e : ErrorCode) (s : State) :
    answerError e s = { s with port := { s.port with
      answer := some ⟨[errLine e], 24 * s.now + 25 * ((errLine e).length + 2), false⟩ } } :=
  sendAnswer_line s (errLine e)

theorem takeLine_no_words (words : wordsFrom [] chars = []) : takeLine ⟨chars, false⟩ s = s := by
  simp [takeLine, words]

theorem takeLine_command {c : PortCommand} (words : wordsFrom [] chars = first :: args)
    (sorted : sortWords (first.map upper) args = .command c) : takeLine ⟨chars, false⟩ s = doCommand c s := by
  simp [takeLine, words, sorted]

theorem takeLine_error {e : ErrorCode} (words : wordsFrom [] chars = first :: args)
    (sorted : sortWords (first.map upper) args = .error e) : takeLine ⟨chars, false⟩ s = answerError e s := by
  simp [takeLine, words, sorted]

/-- A blank line: not overlong, and nothing but spaces. -/
def PortLine.blank (w : PortLine) : Prop := w.overlong = false ∧ ∀ x ∈ w.chars, x = ' '

theorem takeLine_blank {w : PortLine} (blank : w.blank) : takeLine w s = s := by
  obtain ⟨chars, overlong⟩ := w
  obtain ⟨rfl, spaces⟩ := blank
  refine takeLine_no_words ?_
  have words := wordsFrom_spaces chars.length []
  rwa [← List.eq_replicate_of_mem spaces, List.append_nil] at words

/-- Blank lines are passed over (R162). -/
theorem takeWaiting_blanks (before rest : List PortLine) (blanks : ∀ w ∈ before, w.blank) (quiet : s.port.answer = none) :
    takeWaiting (before ++ rest) s = takeWaiting rest s := by
  induction before with
  | nil => rfl
  | cons w before ih =>
    have same : takeLine w s = s := takeLine_blank (blanks w List.mem_cons_self)
    rw [List.cons_append, takeWaiting, same, quiet, ← ih fun x mem => blanks x (List.mem_cons_of_mem w mem)]
    rfl

/-- A line that is answered leaves those behind it waiting (R162). -/
theorem takeWaiting_answered (w : PortLine) (rest : List PortLine) (answered : (takeLine w s).port.answer ≠ none) :
    takeWaiting (w :: rest) s = (takeLine w s).setPort fun p => { p with waiting := rest } := by
  simp [takeWaiting, Option.isSome_iff_ne_none.2 answered]

end

/-! ### The answer's end (R162, R168) -/

section
variable {s : State} {a : Answer}

theorem exec_answerEnd (run : s.running = true) (sent : s.port.answer = some a) (ended : a.ends ≤ 24 * s.now) :
    exec .answerEnd s = .next (endAnswer s) :=
  whenDue_true (f := endAnswer) (by simp [answerEndDue, run, sent, reached, ended])

theorem endAnswer_taken (sent : s.port.answer = some a) (goesOn : a.restart = false) : endAnswer s = answerTaken a s := by
  simp [endAnswer, answerTaken, sent, goesOn]

theorem endAnswer_restart (sent : s.port.answer = some a) (restart : a.restart = true) :
    endAnswer s = tryRead (beginStart .restart s) := by
  simp [endAnswer, sent, restart]

/-- What may begin an image read leaves every relay open, every lamp dark and the clock held at 0 (R159). -/
theorem dark_tryRead {u : State} (start : InStart s u) :
    (tryRead u).clock = 0 ∧ (tryRead u).troubleRelay = false ∧ (tryRead u).troubleLamp = .dark
      ∧ (∀ l, (tryRead u).relayClosed l = false ∧ (tryRead u).lineLamp l = .dark) ∧ ∀ c, (tryRead u).channelLamp c = .dark := by
  obtain ⟨phase, -, -, -, lines, -⟩ := start
  have notRunning : (tryRead u).running = false := by
    obtain h | ⟨-, -, h⟩ := tryRead_cases u <;> rw [h]
    · simp [State.running, phase]
    · simp [State.running]
  have relay (l : LineNo) : (tryRead u).relayClosed l = u.relayClosed l := by
    obtain h | ⟨-, -, h⟩ := tryRead_cases u <;> rw [h]
    rfl
  obtain ⟨clock, trouble, lamp, lineLamps, channelLamps⟩ := dark_of_not_running notRunning
  exact ⟨clock, trouble, lamp, fun l => ⟨(relay l).trans (lines l).1, lineLamps l⟩, channelLamps⟩

end

/-! ### Characters (R161) -/

section
variable {s : State} {code : Nat}

theorem exec_characterReceived (run : s.running = true) (code : Byte) :
    exec (.characterReceived code false) s = .next (takeCharacter code.toNat s) :=
  whenDue_true (f := takeCharacter code.toNat) (by simp [run])

/-- A character with a framing error, or one during a start, is lost. -/
theorem exec_characterReceived_lost {framing : Bool} (lost : framing = true ∨ s.running = false) (code : Byte) :
    exec (.characterReceived code framing) s = .next s :=
  whenDue_false (f := takeCharacter code.toNat) (by rcases lost with h | h <;> simp [h])

theorem takeCharacter_printable (printable : 32 ≤ code ∧ code ≤ 126) :
    takeCharacter code s = { s with port := { s.port with receiving :=
      if s.port.held < 64 then ⟨s.port.receiving.chars ++ [Char.ofNat code], s.port.receiving.overlong⟩
      else ⟨s.port.receiving.chars, true⟩ } } := by
  rw [takeCharacter, if_pos printable]
  by_cases room : s.port.held < 64 <;> simp [State.setPort, appendChar, room]

theorem takeCharacter_return :
    takeCharacter 13 s =
      let emptied : State := { s with port := { s.port with receiving := ⟨[], false⟩ } }
      if s.port.answer.isSome then { emptied with port := { emptied.port with waiting := s.port.waiting ++ [s.port.receiving] } }
      else takeLine s.port.receiving emptied := rfl

theorem takeCharacter_backspace :
    takeCharacter 8 s = { s with port := { s.port with receiving :=
      ⟨s.port.receiving.chars.dropLast, s.port.receiving.overlong⟩ } } := rfl

theorem takeCharacter_other (notPrintable : ¬ (32 ≤ code ∧ code ≤ 126)) (notReturn : code ≠ 13) (notBackspace : code ≠ 8) :
    takeCharacter code s = s := by
  rw [takeCharacter, if_neg notPrintable, if_neg notReturn, if_neg notBackspace]

end

end Sys2Proof.Machine

namespace Sys2Proof.Proofs
open Sys2Proof Sys2Proof.Machine

/-- A character received while start is complete, by its code (R161, R162). -/
theorem character_taken {s : State} (run : s.running = true) (code : Byte) :
    exec (.characterReceived code false) s = .next (
      if 32 ≤ code.toNat ∧ code.toNat ≤ 126 then
        { s with port := { s.port with receiving :=
            if s.port.held < 64 then ⟨s.port.receiving.chars ++ [Char.ofNat code.toNat], s.port.receiving.overlong⟩
            else ⟨s.port.receiving.chars, true⟩ } }
      else if code = 13 then
        let emptied : State := { s with port := { s.port with receiving := ⟨[], false⟩ } }
        if s.port.answer.isSome then { emptied with port := { emptied.port with waiting := s.port.waiting ++ [s.port.receiving] } }
        else takeLine s.port.receiving emptied
      else if code = 8 then
        { s with port := { s.port with receiving := ⟨s.port.receiving.chars.dropLast, s.port.receiving.overlong⟩ } }
      else s) := by
  rw [exec_characterReceived run]
  refine congrArg _ ?_
  by_cases printable : 32 ≤ code.toNat ∧ code.toNat ≤ 126
  · rw [if_pos printable, takeCharacter_printable printable]
  rw [if_neg printable]
  by_cases cr : code = 13
  · subst cr; exact takeCharacter_return
  rw [if_neg cr]
  by_cases bs : code = 8
  · subst bs; exact takeCharacter_backspace
  rw [if_neg bs, takeCharacter_other printable (fun is => cr (BitVec.eq_of_toNat_eq is)) fun is => bs (BitVec.eq_of_toNat_eq is)]

/-- An answer's end after which only blank lines wait (R162). -/
theorem answerEnd_blanks {s : State} {a : Answer} (run : s.running = true) (sent : s.port.answer = some a)
    (ended : a.ends ≤ 24 * s.now) (goesOn : a.restart = false) (blanks : ∀ w ∈ s.port.waiting, w.blank) :
    exec .answerEnd s = .next { s with port := { s.port with answer := none, waiting := [] } } := by
  have passed := takeWaiting_blanks (s := s.setPort fun p => { p with answer := none }) s.port.waiting [] blanks rfl
  rw [List.append_nil] at passed
  rw [exec_answerEnd run sent ended, endAnswer_taken sent goesOn, answerTaken, passed]
  rfl

/-- An answer's end takes the first waiting line that is answered, whose answer begins where the last one ended (R162). -/
theorem answerEnd_line {s : State} {a : Answer} (run : s.running = true) (sent : s.port.answer = some a)
    (ended : a.ends ≤ 24 * s.now) (goesOn : a.restart = false) {before rest : List PortLine} {w : PortLine}
    (waiting : s.port.waiting = before ++ w :: rest) (blanks : ∀ b ∈ before, b.blank) :
    let taken := takeLine w { s with port := { s.port with answer := none } }
    taken.port.answer ≠ none → exec .answerEnd s = .next { taken with port := { taken.port with
      waiting := rest
      answer := taken.port.answer.map fun b => { b with ends := b.ends - (24 * s.now - a.ends) } } } := by
  intro taken answered
  have passed := takeWaiting_blanks (s := s.setPort fun p => { p with answer := none }) before (w :: rest) blanks rfl
  have stops := takeWaiting_answered (s := s.setPort fun p => { p with answer := none }) w rest answered
  rw [exec_answerEnd run sent ended, endAnswer_taken sent goesOn, answerTaken, waiting, passed, stops]
  rfl

/-- A start begins after RESTART, and the image read at once where supply and pin allow it (R158, R159, R168). -/
theorem answerEnd_restart {s : State} {a : Answer} (run : s.running = true) (sent : s.port.answer = some a)
    (ended : a.ends ≤ 24 * s.now) (restart : a.restart = true) :
    ∃ u, InStart s u ∧ u.supply = s.supply ∧ u.pinLow = s.pinLow ∧ u.startCause = .restart
      ∧ ∃ t, exec .answerEnd s = .next t
        ∧ (s.supply = .up → s.pinLow = false →
            t = { u with phase := .reading s.now, loader := { s.loader with clampCount := 0 } })
        ∧ (s.supply ≠ .up ∨ s.pinLow = true → t = u)
        ∧ t.clock = 0 ∧ t.troubleRelay = false ∧ t.troubleLamp = .dark
        ∧ (∀ l, t.relayClosed l = false ∧ t.lineLamp l = .dark) ∧ (∀ c, t.channelLamp c = .dark) := by
  have start := inStart_beginStart .restart s
  have taken := (exec_answerEnd run sent ended).trans (congrArg _ (endAnswer_restart sent restart))
  refine ⟨beginStart .restart s, start, rfl, rfl, rfl, _, taken, fun up high => ?_, fun held => ?_, dark_tryRead start⟩
  · exact if_pos ⟨up, high⟩
  · refine if_neg fun free => ?_
    obtain ⟨up, high⟩ : s.supply = .up ∧ s.pinLow = false := free
    simp [up, high] at held

/-- Spaces, a word behind spaces, and a word with more behind it (R162). -/
theorem words_read (n : Nat) (w rest : Text) (word : w ≠ []) (letters : ' ' ∉ w) :
    wordsFrom [] (List.replicate n ' ') = [] ∧ wordsFrom [] (List.replicate n ' ' ++ w) = [w]
      ∧ wordsFrom [] (List.replicate n ' ' ++ w ++ ' ' :: rest) = w :: wordsFrom [] rest := by
  have spaces := wordsFrom_spaces n []
  have read := wordsFrom_word w [] word letters
  rw [List.append_nil] at spaces read
  refine ⟨spaces, ?_, ?_⟩
  · rw [wordsFrom_spaces, read, wordsFrom_end w word]
  · rw [List.append_assoc, wordsFrom_spaces, wordsFrom_word w _ word letters, wordsFrom_space w rest word]

/-- A line whose first word names a command without arguments (R162, R163). -/
theorem takeLine_plain {chars first : Text} {args : List Text} (s : State) (words : wordsFrom [] chars = first :: args)
    {p : Instr × String} (mem : p ∈ plainNames) (name : String.ofList (first.map upper) = p.2) :
    (args ≠ [] → takeLine ⟨chars, false⟩ s = answerError .argument s)
      ∧ (args = [] → s.running = true → s.port.answer = none → s.port.held + p.2.length ≤ 64 →
          exec p.1 s = .next (takeLine ⟨chars, false⟩ s)) := by
  obtain ⟨c, sorted, text, given⟩ := namesPlain_of_mem mem
  have word : p.2.toList = first.map upper := by rw [← name, String.toList_ofList]
  rw [word] at sorted
  refine ⟨fun more => takeLine_error words ((sorted args).trans (if_neg more)), fun alone run free room => ?_⟩
  rw [takeLine_command words ((sorted args).trans (if_pos alone)), given, giveCommand_of_room s c _ run free]
  rw [text]; exact room

/-- A line whose first word names a command with a number (R162, R163). -/
theorem takeLine_numbered {chars first : Text} {args : List Text} (s : State) (words : wordsFrom [] chars = first :: args)
    {p : (Nat → Instr) × String} (mem : p ∈ numberedNames) (name : String.ofList (first.map upper) = p.2) :
    ((∀ w, args = [w] → ¬ isNumber w) → takeLine ⟨chars, false⟩ s = answerError .argument s)
      ∧ ∀ w, args = [w] → isNumber w → s.running = true → s.port.answer = none →
          s.port.held + p.2.length + 1 + (Nat.toDigits 10 (numberValue w)).length ≤ 64 →
            exec (p.1 (numberValue w)) s = .next (takeLine ⟨chars, false⟩ s) := by
  obtain ⟨f, sorted, text, given⟩ := namesNumbered_of_mem mem
  have word : p.2.toList = first.map upper := by rw [← name, String.toList_ofList]
  rw [word] at sorted
  refine ⟨fun wrong => takeLine_error words ((sorted args).trans (numberCommand_of_no_number f wrong)), ?_⟩
  rintro w rfl number run free room
  rw [takeLine_command words ((sorted _).trans (numberCommand_of_isNumber f number)), given, giveCommand_of_room s _ _ run free]
  rw [text, List.length_append, List.length_cons, String.length_toList, decimal]
  omega

/-- Settles O54: characters by their code, the answer's end by what waits behind it, and a line taken by its words. -/
theorem charactersAndAnswers : Obligations.Characters_and_answers := by
  refine ⟨fun s => ?_, words_read, fun chars s => ?_⟩
  · refine ⟨fun code => ⟨exec_characterReceived_lost (.inl rfl) code, fun start => exec_characterReceived_lost (.inr start) code⟩,
      character_taken, fun a run sent ended => ⟨⟨answerEnd_blanks run sent ended, fun goesOn before w rest => ?_⟩,
        answerEnd_restart run sent ended⟩⟩
    exact answerEnd_line run sent ended goesOn
  · intro error plain numbered number value
    refine ⟨answerError_eq .overlong s, takeLine_no_words, fun first args words => ?_⟩
    intro name
    refine ⟨fun unnamed => ?_, fun p mem is => ?_, fun p mem is => ?_⟩
    · exact (takeLine_error words (sortWords_unknown args unnamed)).trans (answerError_eq .unknown s)
    · obtain ⟨wrong, fits⟩ := takeLine_plain s words mem is
      exact ⟨fun more => (wrong more).trans (answerError_eq .argument s), fits⟩
    · obtain ⟨wrong, fits⟩ := takeLine_numbered s words mem is
      exact ⟨fun unfit => (wrong unfit).trans (answerError_eq .argument s), fits⟩

end Sys2Proof.Proofs
end

section
/-! The read commands of the port, the commands in a start, behind an answer and overlong, and the fields of the data lines (R161 to
R164, R168, R171). -/

namespace Sys2Proof.Machine

/-! ### Commands given whole (R161, R162) -/

/-- The command of the part that gives a port command whole (section 9.3). -/
def PortCommand.whole : PortCommand → Instr
  | .ident => .ident
  | .status => .status
  | .queue => .queue
  | .hist n => .hist n
  | .lines => .lines
  | .chan n => .chan n
  | .trouble => .trouble
  | .ack => .ack
  | .bypass n => .bypass n
  | .unbypass n => .unbypass n
  | .test => .test
  | .abort => .abort
  | .restart => .restart

/-- The thirteen commands, those with a number all with the same one. -/
def everyCommand (n : Nat) : List PortCommand :=
  [.ident, .status, .queue, .lines, .trouble, .hist n, .chan n, .ack, .test, .abort, .restart, .bypass n, .unbypass n]

section
variable (c : PortCommand) (s : State)

/-- No command's line is empty. -/
theorem portCommand_text_length_pos : 0 < (PortCommand.text c).length := by
  cases c
  case hist | chan | bypass | unbypass => exact List.length_append ▸ Nat.add_pos_left (by decide) _
  all_goals decide

theorem exec_whole : exec c.whole s = .next (giveCommand c (doCommand c) s) := by cases c <;> rfl

/-- A command acts at once while no answer is being sent and the buffer has room for its line. -/
theorem exec_whole_of_room (run : s.running = true) (free : s.port.answer = none)
    (room : s.port.held + (PortCommand.text c).length ≤ 64) : exec c.whole s = .next (doCommand c s) := by
  rw [exec_whole, giveCommand_of_room s c _ run free room]

/-- A command in a start has no effect. -/
theorem exec_whole_of_start (start : s.running = false) : exec c.whole s = .next s := by
  simp [exec_whole, giveCommand, start]

/-- A command whose line the buffer has no room for is answered ERR OVERLONG. -/
theorem exec_whole_of_overlong (run : s.running = true) (free : s.port.answer = none)
    (long : ¬ s.port.held + (PortCommand.text c).length ≤ 64) : exec c.whole s = .next (answerError .overlong s) := by
  have noRoom : 64 - s.port.held < (PortCommand.text c).length := by
    have := portCommand_text_length_pos c
    omega
  simp [exec_whole, giveCommand, commandLine, run, free, noRoom]

/-- Behind an answer being sent a command's line waits, cut where the buffer is full. -/
theorem exec_whole_of_answering (run : s.running = true) (busy : s.port.answer.isSome) :
    exec c.whole s = .next (s.setPort fun p => { p with waiting := p.waiting ++ [commandLine c p] }) := by
  rw [exec_whole, giveCommand, if_pos run, if_pos busy]

end

/-! ### Answers of any number of lines (R161, R163) -/

/-- Each line of an answer takes its characters, CR and LF. -/
theorem answerLength_eq (ls : List Text) : answerLength ls = (ls.map fun t => t.length + 2).sum := by
  simp [answerLength, List.sum_eq_foldl, List.foldl_map, Nat.add_assoc]

theorem sendAnswer_lines (ls : List Text) (restart : Bool) (s : State) :
    sendAnswer ls restart s = { s with port := answering ls restart s } := by
  simp only [sendAnswer, State.setPort, answerEnds, answerLength_eq, answering]

/-! ### Numbers in range and out of it (R48, R164, R165) -/

section
variable (s : State) {n : Nat}

theorem doHist_of_range (range : 1 ≤ n ∧ n ≤ 64) :
    doHist n s = answerOk ((s.queue.history.drop (s.queue.history.length - n)).map histLine) s := if_pos range

theorem doHist_out_of_range (out : n = 0 ∨ 64 < n) : doHist n s = answerError .argument s := if_neg (by omega)

theorem doChan_number (c : ChannelNo) : doChan (c.val + 1) s = answerOk [chanLine s c] s := by
  rw [doChan, channelOf_number]

theorem doChan_out_of_range (out : n = 0 ∨ 8 < n) : doChan n s = answerError .argument s := by
  rw [doChan, channelOf_eq_none out]

end

/-! ### Fields (R171) -/

/-- A field of something absent is a hyphen. -/
theorem optional_eq {α : Type} (f : α → Text) (x : Option α) : optional f x = (x.map f).getD ['-'] := by cases x <;> rfl

theorem lineLine_unfitted (s : State) {l : LineNo} (unfitted : (s.line l).state = .unfitted) :
    lineLine s l = dataLine (["L".toList, decimal (lineNumber l), LineState.text (s.line l).state] ++ List.replicate 6 hyphen
      ++ [decimal (s.line l).seizes, decimal (s.line l).collisions, decimal (s.line l).garbled]) := by
  simp only [lineLine, if_pos unfitted]

theorem lineLine_fitted (s : State) {l : LineNo} (fitted : (s.line l).state ≠ .unfitted) :
    lineLine s l = dataLine ["L".toList, decimal (lineNumber l), LineState.text (s.line l).state,
      decimal (secondsOf (s.line l).enteredAt), optional FaultCause.text (s.line l).faultCause,
      if (s.line l).state = .held then optional CurrentBand.text (s.line l).qualifiedCurrent
      else optional OnhookBand.text (s.line l).qualifiedOnhook,
      optional ReportClass.text (s.line l).occupant, yesNo (s.line l).noYield, yesNo (s.line l).noLoop,
      decimal (s.line l).seizes, decimal (s.line l).collisions, decimal (s.line l).garbled] := by
  simp only [lineLine, if_neg fitted, List.cons_append, List.nil_append]

/-- A table of names holds when its column of texts is the column of names. -/
theorem names_of_columns {α : Type} {text : α → Text} {table : List (α × String)}
    (columns : table.map (fun p => text p.1) = table.map (·.2.toList)) : ∀ p ∈ table, text p.1 = p.2.toList :=
  List.map_inj_left.1 columns

end Sys2Proof.Machine

namespace Sys2Proof.Proofs
open Sys2Proof Sys2Proof.Machine

/-- Settles O51: a read command whose line fits acts at once; in a start, behind an answer and overlong all thirteen commands fare
alike; and the fields of each data line are those of its definition, an absent one a hyphen. -/
theorem portReads : Obligations.Port_reads := by
  refine ⟨fun s => ?_, fun s => ?_⟩
  · intro answer ok num commands fits
    have okIs (ls : List Text) : answerOk ls s = ok ls := sendAnswer_lines _ _ s
    have errorIs (e : ErrorCode) : answerError e s = answer [errLine e] := sendAnswer_lines _ _ s
    refine ⟨fun run free => ?_, fun n p mem => ?_⟩
    · have acts (c : PortCommand) {t : State} (does : doCommand c s = t) (room : fits (PortCommand.text c).length) :
          exec c.whole s = .next t := (exec_whole_of_room c s run free room).trans (congrArg _ does)
      have histLength (n : Nat) : (PortCommand.text (.hist n)).length = 5 + (num n).length := List.length_append
      have chanLength (n : Nat) : (PortCommand.text (.chan n)).length = 5 + (num n).length := List.length_append
      refine ⟨acts .ident (okIs _), acts .status (okIs _), acts .queue (okIs _), acts .lines (okIs _), acts .trouble (okIs _),
        fun n low high room => ?_, fun n out room => ?_, fun c room => ?_, fun n out room => ?_⟩
      · exact acts (.hist n) ((doHist_of_range s ⟨low, high⟩).trans (okIs _)) (histLength n ▸ room)
      · exact acts (.hist n) ((doHist_out_of_range s out).trans (errorIs .argument)) (histLength n ▸ room)
      · have digit : (num (c.val + 1)).length = 1 := by revert c; decide
        refine acts (.chan (c.val + 1)) ((doChan_number s c).trans (okIs _)) ?_
        rw [chanLength, digit]
        exact room
      · exact acts (.chan n) ((doChan_out_of_range s out).trans (errorIs .argument)) (chanLength n ▸ room)
    · have all : commands n = (everyCommand n).map fun c => (c.whole, PortCommand.text c) := rfl
      obtain ⟨c, -, rfl⟩ := List.mem_map.1 (all ▸ mem)
      exact ⟨exec_whole_of_start c s,
        fun run free long => (exec_whole_of_overlong c s run free long).trans (congrArg _ (errorIs .overlong)),
        exec_whole_of_answering c s⟩
  · intro num padded join orHyphen mark report
    refine ⟨rfl, rfl, fun r => ?_, fun e => ?_, fun l => ⟨lineLine_unfitted s, fun fitted => ?_⟩, fun c => ?_, fun c => ?_, ?_⟩
    · simp only [queueLine, matterFields, optional_eq]
      rfl
    · obtain ⟨seq, m, fate, finish⟩ := e
      simp only [histLine, matterFields, optional_eq]
      cases fate <;> rfl
    · rw [lineLine_fitted s fitted]
      simp only [optional_eq]
      rfl
    · simp only [chanLine, optional_eq]
      rfl
    · simp only [troubleLine, optional_eq]
      cases c <;> rfl
    · exact ⟨names_of_columns rfl, names_of_columns rfl, names_of_columns rfl, names_of_columns rfl, names_of_columns rfl,
        names_of_columns rfl, fun _ _ _ => names_of_columns rfl, names_of_columns rfl, names_of_columns rfl, names_of_columns rfl,
        names_of_columns rfl, fun _ _ _ _ _ _ _ _ _ _ => names_of_columns rfl, names_of_columns rfl⟩

end Sys2Proof.Proofs
end

section
/-! The step, and what a command does that is not due (log entries 1, 2 and 7). -/

namespace Sys2Proof.Machine

/-! ### The step by what waits and what is due (log entries 1 and 2) -/

section
variable {s : State}

theorem step_of_waiting {c : Instr} {rest : List Instr} (waiting : s.pending = c :: rest) :
    step s = exec c { s with pending := rest } := by
  simp only [step, waiting]

theorem step_of_due {i : Instr} (idle : s.pending = []) (picked : pickDue s = some i) : step s = exec i (countChoice s) := by
  simp only [step, idle, picked]

theorem step_of_nothing_due (idle : s.pending = []) (nothing : pickDue s = none) : step s = .next (tick s) := by
  simp only [step, idle, nothing]

/-- Nothing has fallen due when no event of the part's own has. -/
theorem pickDue_eq_none (quiet : ∀ i, ownEvent i = true → due i s = false) : pickDue s = none := by
  obtain ⟨none, _⟩ | ⟨i, _, isDue⟩ := pickDue_cases s
  · exact none
  · simp [quiet i (ownEvent_of_due isDue)] at isDue

/-- When any event has fallen due, one that has is picked. -/
theorem exists_pickDue {j : Instr} (isDue : due j s = true) : ∃ i, pickDue s = some i ∧ due i s = true := by
  obtain ⟨_, quiet⟩ | picked := pickDue_cases s
  · simp [quiet j] at isDue
  · exact picked

end

/-! ### Every command's outcome (log entry 7) -/

/-- A head that stands is not decided anew (R30). -/
theorem decideHead_of_stands {s : State} (stands : s.firstEligible = s.queue.head) : decideHead s = s := if_pos stands

/-- An event that is the part's own has its effect just when it has fallen due. ELIGIBLE_AT_REACHED falls due only where it would
change the head, for a head that stands is not decided anew (R31). -/
theorem exec_ownEvent {i : Instr} (own : ownEvent i = true) : ∃ f : State → State, ∀ s, exec i s = whenDue (due i s) f s := by
  cases i <;> cases own
  case eligibleAtReached seq =>
    refine ⟨decideHead, fun s => ?_⟩
    by_cases stands : s.firstEligible = s.queue.head
    · have notDue : due (.eligibleAtReached seq) s = false := by simp [due, stands]
      obtain ⟨_, effect⟩ | ⟨_, none⟩ := whenDue_cases s (eligibleAtDue seq s) decideHead
      · rw [whenDue_false notDue]
        exact effect.trans (congrArg _ (decideHead_of_stands stands))
      · exact none.trans (whenDue_false notDue).symm
    · have sameDue : due (.eligibleAtReached seq) s = eligibleAtDue seq s := by simp [due, stands]
      rw [sameDue]
      rfl
  all_goals exact ⟨_, fun _ => rfl⟩

/-- Every command goes on: each meaning is a start begun, an event's effect where it is due, or a command given to the port, and each
of these is a next state. -/
theorem exec_next (i : Instr) (s : State) : ∃ t, exec i s = .next t := by
  cases i <;> exact ⟨_, rfl⟩

end Sys2Proof.Machine

namespace Sys2Proof.Proofs
open Sys2Proof Sys2Proof.Machine

/-- Settles O1: a command in front waits, and the rest behind it are those of the state given. -/
theorem stepTakesFrontCommand : Obligations.Step_takes_front_command := fun _ _ => step_of_waiting rfl

/-- Settles O2: the event picked is one that has fallen due, and none is picked only when none has. -/
theorem stepWithNothingWaiting : Obligations.Step_with_nothing_waiting := by
  refine fun s idle => ⟨fun quiet => step_of_nothing_due idle (pickDue_eq_none quiet), fun j _ isDue => ?_⟩
  obtain ⟨i, picked, isDue⟩ := exists_pickDue isDue
  exact ⟨i, ownEvent_of_due isDue, isDue, step_of_due idle picked⟩

/-- Settles O3: every command goes on, and an event of the part's own has its effect just when it has fallen due. -/
theorem everyCommandCompletes : Obligations.Every_command_completes := by
  refine ⟨exec_next, fun i s own notDue => ?_⟩
  obtain ⟨f, is⟩ := exec_ownEvent own
  exact (is s).trans (whenDue_false notDue)

end Sys2Proof.Proofs
end
